-- ==== Sys2Proof/Word.lean ====
section
/-! DEFINITION. The names of bytes, frame numbers, levels and index types that every other file uses
(section 0.1 Main parameters, section 0.7 Conventions). -/

namespace Sys2Proof

/-- A byte of a command frame, a response frame or a record (chapter 10). -/
abbrev Byte := BitVec 8

/-- The 24-bit frame number FN (section 0.1, R36). -/
abbrev FrameNo := BitVec 24

/-- A host port: 0 is HP0, 1 is HP1, 2 is HP2 (section 0.7). -/
abbrev Port := Fin 3

/-- A subscription id, 0 to 31 (R1). -/
abbrev SubId := Fin 32

/-- An analog input, AIN0 to AIN15 (R51). -/
abbrev InputNo := Fin 16

/-- A trip line, 0 to 3 (R114). -/
abbrev LineNo := Fin 4

/-- A scale profile, P0 to P7 (R92). -/
abbrev ProfileNo := Fin 8

/-- A residue of the plan, 0 to 63 (R5). -/
abbrev Residue := Fin 64

/-- An analog level at an input pin, in microvolts (log 8). -/
abbrev Level := Int

/-- The level at the REFIN pin, in microvolts (log 8). -/
abbrev RefLevel := Nat

end Sys2Proof
end

