-- ==== Sys2Proof/Config.lean ====
section
/-! DEFINITION. The capacities of the part (section 0.1) and the one value that the manual leaves open. -/

namespace Sys2Proof.Config

/-- Records that a sample queue holds (R130). -/
def sampleQueueSize : Nat := 64

/-- Entries of an event queue before EVENTS_LOST takes the last place (R142). -/
def eventQueueRoom : Nat := 15

/-- Entries that an event queue holds, EVENTS_LOST included (R130). -/
def eventQueueSize : Nat := 16

/-- Entries that the spot queue holds (R66). -/
def spotQueueSize : Nat := 8

/-- Entries of one port in the spot queue (R66). -/
def spotPerPort : Nat := 4

/-- Most records in one READ_SAMPLES answer (R136). -/
def samplesPerRead : Nat := 7

/-- Most entries in one READ_EVENTS answer (R143). -/
def eventsPerRead : Nat := 15

/-- Most ids in one READ_LATEST (R139, R173). -/
def latestPerRead : Nat := 7

/-- Where a count of losses saturates (R130, R142). -/
def lostLimit : Nat := 255

/-- Where the trip count saturates (R114, R119). -/
def tripCountLimit : Nat := 65535

/-- The longest payload of a frame (R151, R161). -/
def payloadLimit : Nat := 124

/-- Warm-up time in microseconds (R60). -/
def warmUpTime : Nat := 40

/-- Slot times in one unit of the sync timeout (Table 2-1). -/
def syncUnit : Nat := 64

/-- Lowest accepted REFIN level, 2.40 V, in microvolts (R58). -/
def refWindowLow : RefLevel := 2400000

/-- Highest accepted REFIN level, 2.60 V, in microvolts (R58). -/
def refWindowHigh : RefLevel := 2600000

/-- The device identity code of the ATTACH answer (R161). -/
def identity : BitVec 16 := 0x1640

/-- The revision number of the ATTACH answer (R161). -/
def revision : Byte := 0x01

/-- FREE VALUE (log 9): the code of a conversion of a level of 0 V while REFIN is at 0 V. R63 says that a
level at or below 0 V gives 0 and that a level at or above Vref × 4095/4096 gives 4095, and both hold
here. The argument is `State.freeCount`, so that each such conversion has a value of its own. -/
opaque codeAtZeroReference : Nat → BitVec 12

end Sys2Proof.Config
end

