-- ==== Sys2Proof/Syntax.lean ====
section
/-! DEFINITION. The commands and events of the part, one constructor for each row of
spec/opcode_table.json. A host command carries its port, the tag of its frame and its argument bytes as
they stand in the payload (Table 10-4), so that values out of range reach the checks of the blocks. -/

namespace Sys2Proof

/-- The sixteen bytes of a parameter set as CREATE and MODIFY carry them (R175), by field. -/
structure ParamBytes where
  input : Byte
  period : Byte
  phase : Byte
  average : Byte
  profile : Byte
  watchFlags : Byte
  low : BitVec 24
  high : BitVec 24
  hysteresis : BitVec 16
  debounce : Byte
  line : Byte
  deriving DecidableEq, Repr

/-- The two kinds of reset (R170). -/
inductive ResetKind where
  | powerOn
  | resetPin
  deriving DecidableEq, Repr

/-- The commands and events of the part (Table 10-4 and spec/95_what_each_step_holds.md). -/
inductive Instr where
  /-- FETCH (R156). -/
  | fetch (n : Port) (tag : Byte)
  /-- ATTACH (R160). -/
  | attach (n : Port) (tag : Byte) (label : BitVec 32) (timeout force : Byte)
  /-- DETACH (R162). -/
  | detach (n : Port) (tag : Byte)
  /-- SET_PORT (R168). -/
  | setPort (n : Port) (tag : Byte) (policy watermark classMask timeout : Byte)
  /-- READ_STATUS (R169). -/
  | readStatus (n : Port) (tag : Byte)
  /-- CREATE (R8). -/
  | create (n : Port) (tag : Byte) (params : ParamBytes) (options : Byte)
  /-- MODIFY (R10). -/
  | modify (n : Port) (tag : Byte) (id : Byte) (params : ParamBytes)
  /-- RELEASE (R12). -/
  | release (n : Port) (tag : Byte) (id : Byte)
  /-- JOIN (R15). -/
  | join (n : Port) (tag : Byte) (id : Byte)
  /-- LEAVE (R16). -/
  | leave (n : Port) (tag : Byte) (id : Byte)
  /-- ADOPT (R17). -/
  | adopt (n : Port) (tag : Byte) (id : Byte)
  /-- READ_SUB (R18). -/
  | readSub (n : Port) (tag : Byte) (id : Byte)
  /-- READ_PLAN (R19). -/
  | readPlan (n : Port) (tag : Byte) (residue : Byte)
  /-- RUN (R29). -/
  | run (n : Port) (tag : Byte)
  /-- STOP (R30). -/
  | stop (n : Port) (tag : Byte)
  /-- CONFIG_TIMING (R48). -/
  | configTiming (n : Port) (tag : Byte) (slots divider source timeout : Byte)
  /-- SPOT (R67). -/
  | spot (n : Port) (tag : Byte) (input spotTag profile timeout : Byte)
  /-- CANCEL_SPOT (R76). -/
  | cancelSpot (n : Port) (tag : Byte) (spotTag : Byte)
  /-- CONFIG_INPUT (R54). -/
  | configInput (n : Port) (tag : Byte) (input mode polarity : Byte)
  /-- READ_INPUTS (R57). -/
  | readInputs (n : Port) (tag : Byte)
  /-- SET_PROFILE (R93). -/
  | setProfile (n : Port) (tag : Byte) (index : Byte) (gain : BitVec 16) (offset : BitVec 24)
  /-- READ_PROFILE (R98). -/
  | readProfile (n : Port) (tag : Byte) (index : Byte)
  /-- ARM_TRIP (R116). -/
  | armTrip (n : Port) (tag : Byte) (line : Byte)
  /-- ACK_TRIP (R121). -/
  | ackTrip (n : Port) (tag : Byte) (line : Byte)
  /-- DISARM_TRIP (R124). -/
  | disarmTrip (n : Port) (tag : Byte) (line : Byte)
  /-- READ_TRIP (R127). -/
  | readTrip (n : Port) (tag : Byte) (line : Byte)
  /-- READ_SAMPLES (R136). -/
  | readSamples (n : Port) (tag : Byte) (ack max : Byte)
  /-- READ_EVENTS (R143). -/
  | readEvents (n : Port) (tag : Byte) (ack max : Byte)
  /-- READ_LATEST (R139). -/
  | readLatest (n : Port) (tag : Byte) (ids : List Byte)
  /-- SSn falls (R150). -/
  | transactionStart (n : Port)
  /-- SSn rises after the bits `mosi` were sampled on MOSIn, first bit first (R151). -/
  | commandFrame (n : Port) (mosi : List Bool)
  /-- The session timer of port n expires (R163). -/
  | sessionTimerExpiry (n : Port)
  /-- The frame timer expires (R38). -/
  | frameTimerExpiry
  /-- A rising edge on SYNC (R39). -/
  | syncEdge
  /-- The sync timer expires (R45). -/
  | syncTimerExpiry
  /-- The warm-up timer expires while REFIN is at `refin` (R60). -/
  | warmUpExpiry (refin : RefLevel)
  /-- The next slot of the frame begins while REFIN is at `refin` (R37, R58). -/
  | slotStart (refin : RefLevel)
  /-- The conversion in progress completes; `vin` is the level held at the end of sampling and `vref`
  the REFIN level (R63, R64). -/
  | conversionComplete (vin : Level) (vref : RefLevel)
  /-- A reset begins (R170). -/
  | reset (kind : ResetKind)
  /-- The reset ends with the ROLE0, ROLE1 and ROLE2 straps at these levels, true for high (R159, R170). -/
  | resetEnd (strap0 strap1 strap2 : Bool)
  deriving DecidableEq, Repr

end Sys2Proof
end

