-- ==== Sys2Proof/Machine/State.lean ====
section
/-! DEFINITION. The state of the part, block by block (section 0.2), as plain data, and its reset values.
INVENTORY.md lists every field with the rule that names it. -/

namespace Sys2Proof.Machine

/-- Why the machine stops with a fault. It has no constructor: no step of the part stops. Every command is
answered with a status code and every condition is reported as an event (section 0.7). -/
inductive Fault where
  deriving DecidableEq, Repr

/-- Why an instruction has no meaning. -/
inductive Refusal where
  /-- Raised by an arm of `exec` for a row that has no meaning yet, with the row's mnemonic. Safe: the
  machine stops. No arm raises it. -/
  | notModelled (mnemonic : String)
  deriving DecidableEq, Repr

/-! ### Sets of ports -/

/-- A set of ports (section 0.7): for each port, whether it is a member. -/
structure PortSet where
  p0 : Bool := false
  p1 : Bool := false
  p2 : Bool := false
  deriving DecidableEq, Repr

/-! ### Input Selector (chapter 3) -/

/-- Function of a pin (Table 3-1). -/
inductive InputMode where
  | analog
  | off
  | trip
  deriving DecidableEq, Repr

/-- Level that means "tripped" on a pin (Table 3-1). -/
inductive Polarity where
  | activeHigh
  | activeLow
  deriving DecidableEq, Repr

/-- The electrical state of an analog pin (R52, R115). -/
inductive PinDrive where
  /-- High-impedance with the input buffer on. -/
  | analogInput
  /-- High-impedance with the input buffer off. -/
  | highImpedance
  /-- Push-pull output at the low level. -/
  | drivenLow
  /-- Push-pull output at the high level. -/
  | drivenHigh
  deriving DecidableEq, Repr

/-- The record of one input (R51 Table 3-1), with the state of its pin (R52). -/
structure InputRecord where
  mode : InputMode := .analog
  useCount : Nat := 0
  polarity : Polarity := .activeHigh
  drive : PinDrive := .analogInput
  deriving DecidableEq, Repr

/-- The reference-OK flag (R58). -/
inductive RefFlag where
  | ok
  | fault
  deriving DecidableEq, Repr

/-- State of ISEL (R51, R58, R62), with the level at the REFIN pin (log 8). -/
structure Isel where
  inputs : Vector InputRecord 16 := Vector.replicate 16 {}
  refOk : RefFlag := .ok
  routed : Option InputNo := none
  refin : RefLevel := 2500000
  deriving DecidableEq, Repr

/-! ### Converter (chapter 3) -/

/-- Converter power states (section 3.6). -/
inductive PowerState where
  | off
  | warming
  | ready
  | busy
  deriving DecidableEq, Repr

/-- A member of a due set: the subscription and the generation its record held when the due set was
fixed, the due generation of section 5.2. -/
structure Due where
  id : SubId
  generation : BitVec 8
  deriving DecidableEq, Repr

/-- The conversion in progress: what CONV records of it (R62) and what SEQ keeps to pass it on (R41).
`frame` is the frame it is credited to, none for a standalone conversion. -/
structure Conversion where
  input : InputNo
  refFault : Bool
  slotTime : Nat
  frame : Option FrameNo
  due : List Due
  deriving DecidableEq, Repr

/-- State of CONV (R60). `warmUp` holds the microseconds the running warm-up timer was started with. -/
structure Conv where
  power : PowerState := .off
  warmUp : Option Nat := none
  conversion : Option Conversion := none
  deriving DecidableEq, Repr

/-! ### Sequencer and spot queue (chapters 2 and 4) -/

/-- Sequencer states (section 2.2). -/
inductive SeqState where
  | stopped
  | starting
  | running
  | halting
  deriving DecidableEq, Repr

/-- Sync source (Table 2-1). -/
inductive SyncSource where
  | internal
  | external
  deriving DecidableEq, Repr

/-- Sync state (section 2.7). -/
inductive SyncState where
  | off
  | waiting
  | locked
  | fallback
  deriving DecidableEq, Repr

/-- Converter divider: 1, 2, 4 or 8 (Table 2-1). -/
inductive Divider where
  | by1
  | by2
  | by4
  | by8
  deriving DecidableEq, Repr

/-- Cause of a halt (Table 2-1). -/
inductive HaltKind where
  | stop
  | sessionEnd
  deriving DecidableEq, Repr

/-- What emptied the run-vote set (Table 2-1). -/
structure HaltCause where
  port : Port
  kind : HaltKind
  deriving DecidableEq, Repr

/-- Origin of a list entry (R40). -/
inductive Origin where
  | planned
  | spare
  deriving DecidableEq, Repr

/-- An entry of the conversion list (R40). Its spot entries are the entries of the spot queue whose place
names its slot (log 20). -/
structure ListEntry where
  slot : Nat
  input : InputNo
  origin : Origin
  due : List Due
  deriving DecidableEq, Repr

/-- State and conversion of a spot entry (Table 4-1) in one field. -/
inductive SpotPlace where
  /-- WAITING. -/
  | waiting
  /-- ASSIGNED to the list entry of this slot, whose conversion has not begun. -/
  | listed (slot : Nat)
  /-- ASSIGNED to the conversion in progress: in flight. -/
  | inFlight
  deriving DecidableEq, Repr

/-- A spot entry (R66 Table 4-1). -/
structure SpotEntry where
  port : Port
  tag : Byte
  input : InputNo
  profile : Option ProfileNo
  remaining : Nat
  considered : Bool
  place : SpotPlace
  deriving DecidableEq, Repr

/-- State of SEQ (R27 Table 2-1) with the spot queue (R66). The timers hold the slot times they were
started with; `slot` is the slot of the current frame (R37). -/
structure Seq where
  state : SeqState := .stopped
  votes : PortSet := {}
  haltCause : Option HaltCause := none
  starter : Option Port := none
  fn : FrameNo := 0xFFFFFF
  slots : Nat := 8
  divider : Divider := .by4
  source : SyncSource := .internal
  sync : SyncState := .off
  syncTimeout : Nat := 16
  frameTimer : Option Nat := none
  syncTimer : Option Nat := none
  list : List ListEntry := []
  cut : Bool := false
  slot : Nat := 0
  spots : List SpotEntry := []
  deriving DecidableEq, Repr

/-! ### Subscription Table (chapter 1) -/

/-- Subscription states (Table 1-1). -/
inductive SubState where
  | free
  | staged
  | active
  | closing
  deriving DecidableEq, Repr

/-- Average counts 1, 2, 4, 8 and 16 (Table 1-3). -/
inductive Average where
  | a1
  | a2
  | a4
  | a8
  | a16
  deriving DecidableEq, Repr

/-- The watch part of a parameter set (Table 1-3, R101); the limits are signed 24-bit values. -/
structure WatchPart where
  low : BitVec 24
  high : BitVec 24
  hysteresis : BitVec 16
  debounce : Nat
  trip : Option LineNo
  deriving DecidableEq, Repr

/-- A parameter set (Table 1-3, R3). -/
structure Params where
  input : InputNo
  period : Fin 7
  phase : Nat
  average : Average
  profile : ProfileNo
  watch : Option WatchPart
  deriving DecidableEq, Repr

/-- A subscription record (R1 Table 1-1). -/
structure SubRecord where
  state : SubState := .free
  owner : Option Port := none
  readers : PortSet := {}
  persist : Bool := false
  current : Option Params := none
  staged : Option Params := none
  sequence : BitVec 16 := 0
  generation : BitVec 8 := 0
  deriving DecidableEq, Repr

/-- One row of the plan table: the demand count of each input at one residue (R5). -/
abbrev PlanRow := Vector Nat 16

/-- The plan table (R5). -/
abbrev PlanTable := Vector PlanRow 64

/-- State of SUBT (R1, R5). -/
structure Subt where
  records : Vector SubRecord 32 := Vector.replicate 32 {}
  plan : PlanTable := Vector.replicate 64 (Vector.replicate 16 0)
  deriving DecidableEq, Repr

/-! ### Accumulation and Scaling Unit (chapter 5) -/

/-- A window (R81 Table 5-1). -/
structure Window where
  generation : BitVec 8
  average : Average
  profile : ProfileNo
  position : Nat := 0
  sum : Nat := 0
  folded : Nat := 0
  misses : Nat := 0
  railLow : Bool := false
  railHigh : Bool := false
  refFault : Bool := false
  deriving DecidableEq, Repr

/-- The staged value of a profile with its staging port (Table 5-2: present together). -/
structure StagedValue where
  gain : BitVec 16
  offset : BitVec 24
  port : Port
  deriving DecidableEq, Repr

/-- A scale profile (R92 Table 5-2); gain and offset are signed. -/
structure Profile where
  gain : BitVec 16 := 4096
  offset : BitVec 24 := 0
  staged : Option StagedValue := none
  deriving DecidableEq, Repr

/-- State of ASU (R81, R92). -/
structure Asu where
  windows : Vector (Option Window) 32 := Vector.replicate 32 none
  profiles : Vector Profile 8 := Vector.replicate 8 {}
  deriving DecidableEq, Repr

/-! ### Watch Unit (chapter 6) -/

/-- States of a watch (Table 6-1). -/
inductive WatchState where
  | normal
  | highPending
  | highAlarm
  | lowPending
  | lowAlarm
  deriving DecidableEq, Repr

/-- A watch (R100 Table 6-1). -/
structure Watch where
  part : WatchPart
  generation : BitVec 8
  state : WatchState := .normal
  count : Nat := 0
  frozen : Bool := false
  deriving DecidableEq, Repr

/-- State of WTU (R100, R107): the watches and, for each trip line, its alarm set in ascending order. -/
structure Wtu where
  watches : Vector (Option Watch) 32 := Vector.replicate 32 none
  alarms : Vector (List SubId) 4 := Vector.replicate 4 []
  deriving DecidableEq, Repr

/-! ### Trip Controller (chapter 7) -/

/-- Trip line states (Table 7-1). -/
inductive LineState where
  | disarmed
  | armed
  | tripped
  deriving DecidableEq, Repr

/-- A trip line record (R114 Table 7-1). -/
structure Line where
  state : LineState := .disarmed
  arming : PortSet := {}
  ack : PortSet := {}
  count : Nat := 0
  deriving DecidableEq, Repr

/-- State of TRIPC (R114). -/
structure Tripc where
  lines : Vector Line 4 := Vector.replicate 4 {}
  deriving DecidableEq, Repr

/-! ### Delivery Unit (chapter 8) -/

/-- Record kinds (Table 10-3). -/
inductive RecordKind where
  | sub
  | spot
  | empty
  deriving DecidableEq, Repr

/-- The flags of a sample record (R88, Table 10-6). -/
structure RecordFlags where
  clipped : Bool := false
  railLow : Bool := false
  railHigh : Bool := false
  missed : Bool := false
  noData : Bool := false
  refFault : Bool := false
  deriving DecidableEq, Repr

/-- A sample record by its fields (R88, Table 4-2, Table 10-6); `ident` is the subscription id or the spot
tag, an absent field is none. -/
structure SampleRecord where
  kind : RecordKind
  ident : Byte
  sequence : BitVec 16 := 0
  frame : Option FrameNo := none
  value : Option (BitVec 24) := none
  raw : Option (BitVec 12) := none
  watch : Option WatchState := none
  folded : Nat := 0
  generation : BitVec 8 := 0
  lost : Nat := 0
  flags : RecordFlags := {}
  deriving DecidableEq, Repr

/-- Event codes (Table 10-8). -/
inductive EventCode where
  | watchAlarmHigh
  | watchAlarmLow
  | watchClear
  | subEnded
  | subOrphaned
  | subAdopted
  | tripAsserted
  | tripReleased
  | seqStarted
  | seqStopped
  | syncEarly
  | syncLost
  | syncRegained
  | refFault
  | refRecovered
  | portDetached
  | spotExpired
  | eventsLost
  deriving DecidableEq, Repr

/-- An event entry (R140, R178), with the reported count that DLV keeps for EVENTS_LOST (R142). -/
structure EventEntry where
  code : EventCode
  subject : Byte
  frame : FrameNo
  detail : BitVec 16
  count : Nat := 0
  reported : Nat := 0
  deriving DecidableEq, Repr

/-- Delivery state of one port (R130 Table 8-1). -/
structure PortQueues where
  samples : List SampleRecord := []
  sampleUnacked : Nat := 0
  lost : Nat := 0
  events : List EventEntry := []
  eventUnacked : Nat := 0
  attn : Bool := false
  deriving DecidableEq, Repr

/-- State of DLV (R130, R138). -/
structure Dlv where
  queues : Vector PortQueues 3 := Vector.replicate 3 {}
  latest : Vector (Option SampleRecord) 32 := Vector.replicate 32 none
  deriving DecidableEq, Repr

/-! ### Host Port Controllers (chapter 9) -/

/-- Roles (section 0.6). -/
inductive Role where
  | monitor
  | control
  deriving DecidableEq, Repr

/-- Session states (Table 9-1). -/
inductive SessionState where
  | detached
  | attached
  deriving DecidableEq, Repr

/-- Overflow policies (R131). -/
inductive Policy where
  | keepOldest
  | keepNewest
  deriving DecidableEq, Repr

/-- The class mask: whether each event class is enabled (R131, R174). -/
structure ClassMask where
  watch : Bool := true
  subscription : Bool := true
  trip : Bool := true
  timing : Bool := true
  system : Bool := true
  spot : Bool := true
  deriving DecidableEq, Repr

/-- Reset causes (Table 9-1). -/
inductive ResetCause where
  | none
  | powerOn
  | resetPin
  deriving DecidableEq, Repr

/-- Status codes (Table 10-7). -/
inductive Status where
  | ok
  | badFrame
  | unknownCommand
  | badLength
  | badArgument
  | notAttached
  | already
  | role
  | notOwner
  | notFound
  | noEntry
  | noCapacity
  | inputMode
  | inUse
  | busyState
  | stagedConflict
  | queueFull
  | portLimit
  | duplicate
  | inFlight
  | notVoter
  | notMember
  | notOrphan
  | pinMode
  | tripState
  | badAck
  | pending
  deriving DecidableEq, Repr

/-- A response frame by its fields, less the OVERRUN flag and the CRC, which are added when it is shifted
out (R150, R172). -/
structure Response where
  status : Status
  tag : Byte
  payload : List Byte
  deriving DecidableEq, Repr

/-- The response holder: its state and, in READY, its content (section 9.3). -/
inductive Holder where
  | empty
  | pending
  | ready (r : Response)
  deriving DecidableEq, Repr

/-- The transaction of a port (R150, R171). -/
inductive Transaction where
  /-- SSn is high. -/
  | idle
  /-- SSn fell before the end of a reset: the transaction is ignored in full. -/
  | ignored
  /-- SSn is low: the copy of the holder that is shifted out, and whether the holder was PENDING at the
  fall. -/
  | active (copy : List Byte) (pendingAtFall : Bool)
  deriving DecidableEq, Repr

/-- The state of a MISOn pin (R150, R170, R171). -/
inductive MisoPin where
  /-- Not driven: while SSn is high, while a reset lasts, and throughout an ignored transaction. -/
  | highImpedance
  /-- Driven to a level: true is high. -/
  | driven (level : Bool)
  deriving DecidableEq, Repr

/-- State of one port controller (R149 Table 9-1), the command in execution (R154), the transaction and the pin
MISOn (R150), and what MISOn showed at the clocks of the last whole transaction (log 19). -/
structure PortCtl where
  role : Role := .monitor
  session : SessionState := .detached
  label : BitVec 32 := 0
  timeout : Byte := 0
  timer : Option Nat := none
  policy : Policy := .keepOldest
  watermark : Nat := 1
  mask : ClassMask := {}
  cause : ResetCause := .none
  holder : Holder := .empty
  pendingTag : Byte := 0
  overrun : Bool := false
  inExec : Option Instr := none
  transaction : Transaction := .idle
  miso : MisoPin := .highImpedance
  misoCarried : List MisoPin := []
  deriving DecidableEq, Repr

/-! ### The whole part -/

/-- The state of the part. `resetting` is the kind of the reset that lasts (R170); `freeCount` numbers the
uses of the free value (log 9); `pending` is the queue of waiting commands, first in, first out (log 22). -/
structure State where
  isel : Isel := {}
  conv : Conv := {}
  seq : Seq := {}
  subt : Subt := {}
  asu : Asu := {}
  wtu : Wtu := {}
  tripc : Tripc := {}
  dlv : Dlv := {}
  hpc : Vector PortCtl 3 := Vector.replicate 3 {}
  resetting : Option ResetKind := none
  freeCount : Nat := 0
  pending : List Instr := []
  deriving DecidableEq, Repr

/-- A port controller right after a power-on reset whose strap gave this role (R149, R170). -/
def freshPort (role : Role) : PortCtl := { role := role, cause := .powerOn }

/-- The part right after a power-on reset has ended: every field at its reset value. The straps are those
of the system of chapter 11: ports 0 and 1 CONTROL, port 2 MONITOR (log 1, DESIGN CHOICE). -/
def State.reset : State where
  hpc := #v[freshPort .control, freshPort .control, freshPort .monitor]

end Sys2Proof.Machine
end

