-- ==== Sys2Proof/Machine/Ops.lean ====
section
/-! DEFINITION. Operations that every block uses: tables, sets of ports, updates of one block of the state,
raising an event (R140 to R142), judging ATTNn (R144), use counts (R53), and the one update of a
subscription record that keeps the plan table and the use counts in step (R4, R5). -/

namespace Sys2Proof.Machine

/-! ### Tables -/

/-- The table whose entry i is `f i`. -/
def tabulate {α : Type} {n : Nat} (f : Fin n → α) : Vector α n :=
  ⟨⟨(List.finRange n).map f⟩, by simp⟩

/-- The table with entry i replaced. -/
def put {α : Type} {n : Nat} (v : Vector α n) (i : Fin n) (x : α) : Vector α n :=
  v.set i.val x i.isLt

/-- All ports, ids, inputs, lines and residues, ascending. -/
def ports : List Port := List.finRange 3

/-- All subscription ids, ascending. -/
def subIds : List SubId := List.finRange 32

/-- All inputs, ascending. -/
def inputNos : List InputNo := List.finRange 16

/-- All trip lines, ascending. -/
def lineNos : List LineNo := List.finRange 4

/-- All residues, ascending. -/
def residues : List Residue := List.finRange 64

/-! ### Sets of ports (section 0.7) -/

/-- Membership. -/
def PortSet.has (ps : PortSet) (n : Port) : Bool :=
  if n = 0 then ps.p0 else if n = 1 then ps.p1 else ps.p2

/-- The set with the membership of port n replaced. -/
def PortSet.change (ps : PortSet) (n : Port) (b : Bool) : PortSet :=
  if n = 0 then { ps with p0 := b } else if n = 1 then { ps with p1 := b } else { ps with p2 := b }

/-- The set with port n added. -/
def PortSet.add (ps : PortSet) (n : Port) : PortSet := ps.change n true

/-- The set with port n removed. -/
def PortSet.drop (ps : PortSet) (n : Port) : PortSet := ps.change n false

/-- The set of all ports. -/
def PortSet.all : PortSet := ⟨true, true, true⟩

/-- The set without members. -/
def PortSet.empty : PortSet := ⟨false, false, false⟩

/-- Has the set no member? -/
def PortSet.isEmpty (ps : PortSet) : Bool := !(ps.p0 || ps.p1 || ps.p2)

/-- The set of the one port n, or of no port. -/
def PortSet.ofOwner : Option Port → PortSet
  | none => PortSet.empty
  | some n => PortSet.empty.add n

/-- Union. -/
def PortSet.union (a b : PortSet) : PortSet := ⟨a.p0 || b.p0, a.p1 || b.p1, a.p2 || b.p2⟩

/-! ### Updates of one block, and of one entry of a block's table -/

/-- The state with ISEL replaced. -/
def State.withIsel (s : State) (x : Isel) : State := { s with isel := x }
/-- The state with CONV replaced. -/
def State.withConv (s : State) (x : Conv) : State := { s with conv := x }
/-- The state with SEQ replaced. -/
def State.withSeq (s : State) (x : Seq) : State := { s with seq := x }
/-- The state with SUBT replaced. -/
def State.withSubt (s : State) (x : Subt) : State := { s with subt := x }
/-- The state with ASU replaced. -/
def State.withAsu (s : State) (x : Asu) : State := { s with asu := x }
/-- The state with WTU replaced. -/
def State.withWtu (s : State) (x : Wtu) : State := { s with wtu := x }
/-- The state with TRIPC replaced. -/
def State.withTripc (s : State) (x : Tripc) : State := { s with tripc := x }
/-- The state with DLV replaced. -/
def State.withDlv (s : State) (x : Dlv) : State := { s with dlv := x }
/-- The state with the port controllers replaced. -/
def State.withHpc (s : State) (x : Vector PortCtl 3) : State := { s with hpc := x }
/-- The state with the queue of commands replaced. -/
def State.withPending (s : State) (x : List Instr) : State := { s with pending := x }

/-- The input record of input k. -/
def State.input (s : State) (k : InputNo) : InputRecord := s.isel.inputs[k]
/-- The subscription record of an id. -/
def State.record (s : State) (i : SubId) : SubRecord := s.subt.records[i]
/-- The window of an id, if it has one. -/
def State.window (s : State) (i : SubId) : Option Window := s.asu.windows[i]
/-- The profile p. -/
def State.profile (s : State) (p : ProfileNo) : Profile := s.asu.profiles[p]
/-- The watch of an id, if it has one. -/
def State.watch (s : State) (i : SubId) : Option Watch := s.wtu.watches[i]
/-- The alarm set of a line. -/
def State.alarms (s : State) (t : LineNo) : List SubId := s.wtu.alarms[t]
/-- The record of a trip line. -/
def State.line (s : State) (t : LineNo) : Line := s.tripc.lines[t]
/-- The delivery state of a port. -/
def State.queues (s : State) (n : Port) : PortQueues := s.dlv.queues[n]
/-- The controller of a port. -/
def State.port (s : State) (n : Port) : PortCtl := s.hpc[n]

/-- The state with one input record replaced. -/
def State.setInput (s : State) (k : InputNo) (x : InputRecord) : State :=
  s.withIsel { s.isel with inputs := put s.isel.inputs k x }
/-- The state with one window replaced. -/
def State.setWindow (s : State) (i : SubId) (x : Option Window) : State :=
  s.withAsu { s.asu with windows := put s.asu.windows i x }
/-- The state with one profile replaced. -/
def State.setProfile (s : State) (p : ProfileNo) (x : Profile) : State :=
  s.withAsu { s.asu with profiles := put s.asu.profiles p x }
/-- The state with one trip line record replaced. -/
def State.setLine (s : State) (t : LineNo) (x : Line) : State :=
  s.withTripc { s.tripc with lines := put s.tripc.lines t x }
/-- The state with one latest table entry replaced. -/
def State.setLatest (s : State) (i : SubId) (x : Option SampleRecord) : State :=
  s.withDlv { s.dlv with latest := put s.dlv.latest i x }
/-- The state with the delivery state of one port replaced. -/
def State.setQueues (s : State) (n : Port) (x : PortQueues) : State :=
  s.withDlv { s.dlv with queues := put s.dlv.queues n x }
/-- The state with one port controller replaced. -/
def State.setPort (s : State) (n : Port) (x : PortCtl) : State :=
  s.withHpc (put s.hpc n x)

/-! ### Sessions as other blocks see them -/

/-- Is the port ATTACHED? -/
def attached (s : State) (n : Port) : Bool := (s.port n).session == .attached

/-! ### ATTNn (R144) -/

/-- The condition of R144 on one port: ATTACHED, and an event entry waits or the sample queue has reached
the watermark. -/
def attnCondition (p : PortCtl) (q : PortQueues) : Bool :=
  p.session == .attached && (!q.events.isEmpty || decide (p.watermark ≤ q.samples.length))

/-- DLV judges ATTNn of port n again (R144). -/
def judgeAttn (n : Port) (s : State) : State :=
  s.setQueues n { s.queues n with attn := attnCondition (s.port n) (s.queues n) }

/-! ### Events (R140 to R142) -/

/-- The value of an event code (Table 10-8). -/
def EventCode.value : EventCode → Byte
  | .watchAlarmHigh => 0x01
  | .watchAlarmLow => 0x02
  | .watchClear => 0x03
  | .subEnded => 0x10
  | .subOrphaned => 0x11
  | .subAdopted => 0x12
  | .tripAsserted => 0x20
  | .tripReleased => 0x21
  | .seqStarted => 0x30
  | .seqStopped => 0x31
  | .syncEarly => 0x38
  | .syncLost => 0x39
  | .syncRegained => 0x3A
  | .refFault => 0x40
  | .refRecovered => 0x41
  | .portDetached => 0x42
  | .spotExpired => 0x50
  | .eventsLost => 0x7F

/-- Does the mask let events of this code in (R140)? No mask applies to EVENTS_LOST. -/
def ClassMask.lets (m : ClassMask) : EventCode → Bool
  | .watchAlarmHigh => m.watch
  | .watchAlarmLow => m.watch
  | .watchClear => m.watch
  | .subEnded => m.subscription
  | .subOrphaned => m.subscription
  | .subAdopted => m.subscription
  | .tripAsserted => m.trip
  | .tripReleased => m.trip
  | .seqStarted => m.system
  | .seqStopped => m.system
  | .syncEarly => m.timing
  | .syncLost => m.timing
  | .syncRegained => m.timing
  | .refFault => m.system
  | .refRecovered => m.system
  | .portDetached => m.system
  | .spotExpired => m.spot
  | .eventsLost => true

/-- One more, staying at the limit (R130, R142). -/
def saturate (limit n : Nat) : Nat := if n < limit then n + 1 else limit

/-- An event entry offered to an event queue (R142): counted into a newest EVENTS_LOST, placed at the tail
while fewer than 15 entries stand, or replaced by an EVENTS_LOST entry. -/
def offerEntry (e : EventEntry) (q : List EventEntry) : List EventEntry :=
  match q.getLast? with
  | some l =>
    if l.code = .eventsLost then
      q.dropLast ++ [{ l with
        count := saturate Config.lostLimit l.count
        detail := e.code.value.setWidth 16 }]
    else if q.length < Config.eventQueueRoom then q ++ [e]
    else q ++ [{ code := .eventsLost, subject := 0, frame := e.frame,
                 detail := e.code.value.setWidth 16, count := 1, reported := 0 }]
  | none => [e]

/-- One port's share of an event: nothing unless the port is in the audience, ATTACHED, and its mask enables
the class (R141). -/
def placeEvent (audience : PortSet) (e : EventEntry) (n : Port) (s : State) : State :=
  if audience.has n && attached s n && (s.port n).mask.lets e.code then
    judgeAttn n (s.setQueues n { s.queues n with events := offerEntry e (s.queues n).events })
  else s

/-- An event is raised: DLV takes it whole, for every port of the audience (R140, R141). It carries FN as it
stands (R36). -/
def raise (audience : PortSet) (code : EventCode) (subject : Byte) (detail : BitVec 16)
    (s : State) : State :=
  let e : EventEntry := { code, subject, frame := s.seq.fn, detail }
  placeEvent audience e 2 (placeEvent audience e 1 (placeEvent audience e 0 s))

/-- A port number as an event's subject or as a detail byte. -/
def portByte (n : Port) : Byte := BitVec.ofNat 8 n.val

/-- A subscription id as an event's subject or as a record's byte. -/
def idByte (i : SubId) : Byte := BitVec.ofNat 8 i.val

/-- A detail with a cause in the high byte and a number in the low byte (R178). -/
def causeDetail (cause low : Byte) : BitVec 16 := cause ++ low

/-! ### Use counts (R53) -/

/-- The use count of an input rises by 1. -/
def useUp (k : InputNo) (s : State) : State :=
  s.setInput k { s.input k with useCount := (s.input k).useCount + 1 }

/-- The use count of an input falls by 1. -/
def useDown (k : InputNo) (s : State) : State :=
  s.setInput k { s.input k with useCount := (s.input k).useCount - 1 }

/-! ### Reservations, named inputs and the plan table (R4, R5, R6) -/

/-- The period P of a parameter set, 2^p frames (Table 1-3). -/
def Params.frames (p : Params) : Nat := 2 ^ p.period.val

/-- Does the parameter set cover this residue (R5)? -/
def Params.covers (p : Params) (r : Residue) : Bool := r.val % p.frames == p.phase

/-- The reserved parameters of a record (section 1.1). -/
def SubRecord.reserved (r : SubRecord) : Option Params :=
  match r.state with
  | .free => none
  | .staged => r.staged
  | .active => match r.staged with
    | some p => some p
    | none => r.current
  | .closing => none

/-- Does the parameter set, if there is one, name input k? -/
def namesInput (p : Option Params) (k : InputNo) : Bool :=
  match p with
  | some q => q.input == k
  | none => false

/-- Is input k among the named inputs of the record (R4)? -/
def SubRecord.names (r : SubRecord) (k : InputNo) : Bool :=
  match r.state with
  | .free => false
  | .staged => namesInput r.staged k
  | .active => namesInput r.current k || namesInput r.staged k
  | .closing => namesInput r.current k

/-- A reservation is added to the plan table at every residue it covers (R5). -/
def addClaim (claim : Option Params) (plan : PlanTable) : PlanTable :=
  match claim with
  | none => plan
  | some p => tabulate fun r =>
      if p.covers r then put plan[r] p.input (plan[r][p.input] + 1) else plan[r]

/-- A reservation is removed from the plan table at every residue it covers (R5). -/
def removeClaim (claim : Option Params) (plan : PlanTable) : PlanTable :=
  match claim with
  | none => plan
  | some p => tabulate fun r =>
      if p.covers r then put plan[r] p.input (plan[r][p.input] - 1) else plan[r]

/-- The number of inputs demanded in a plan row (R6). -/
def demanded (row : PlanRow) : Nat := (inputNos.filter fun k => decide (0 < row[k])).length

/-- Does every residue demand at most S inputs (R6, R48)? -/
def planFits (slots : Nat) (plan : PlanTable) : Bool :=
  residues.all fun r => decide (demanded plan[r] ≤ slots)

/-- The use count of input k after a record's named inputs have changed (R4). -/
def useAfter (old new : SubRecord) (k : InputNo) (count : Nat) : Nat :=
  if new.names k && !old.names k then count + 1
  else if old.names k && !new.names k then count - 1
  else count

/-- A subscription record is replaced. The use counts follow its named inputs (R4) and the plan table follows
its reservation (R5), at the same moment. -/
def updateRecord (i : SubId) (new : SubRecord) (s : State) : State :=
  let old := s.record i
  let plan :=
    if old.reserved = new.reserved then s.subt.plan
    else addClaim new.reserved (removeClaim old.reserved s.subt.plan)
  let inputs := tabulate fun k =>
    { s.isel.inputs[k] with useCount := useAfter old new k s.isel.inputs[k].useCount }
  (s.withIsel { s.isel with inputs := inputs }).withSubt
    { records := put s.subt.records i new, plan := plan }

/-- The audience "owner and readers" of a record as it stands (R2, R141). -/
def SubRecord.audience (r : SubRecord) : PortSet := (PortSet.ofOwner r.owner).union r.readers

/-! ### Answers of blocks -/

/-- What a block answers to a command: a status and, for OK and BAD_ACK, a payload (R172). -/
structure Reply where
  status : Status
  payload : List Byte := []
  deriving DecidableEq, Repr

/-- OK with a payload. -/
def Reply.ok (payload : List Byte) : Reply := ⟨.ok, payload⟩

/-- A refusal: the status alone. -/
def Reply.refuse (st : Status) : Reply := ⟨st, []⟩

/-! ### The free value (log 9) -/

/-- The state after one use of the free value. -/
def State.useFree (s : State) : State := { s with freeCount := s.freeCount + 1 }

end Sys2Proof.Machine
end

