-- ==== Sys2Proof/Machine/Flags.lean ====
section
/-! DEFINITION. Codes, rail flags, scaling with clipping, and the flags of a sample record (R58, R63, R88,
R90). -/

namespace Sys2Proof.Machine

/-- Does the reference check find REFIN in the window of 2.40 V to 2.60 V, both limits included (R58)? -/
def refInWindow (refin : RefLevel) : Bool :=
  decide (Config.refWindowLow ≤ refin) && decide (refin ≤ Config.refWindowHigh)

/-- An integer limited to the codes 0 to 4095 (R63). -/
def limitCode (v : Int) : BitVec 12 :=
  if v ≤ 0 then 0 else if 4095 ≤ v then 4095 else BitVec.ofNat 12 v.toNat

/-- The code of a held level (R63): floor(Vin / Vref × 4096), limited to 0 to 4095. With REFIN at 0 V a
level below 0 V gives 0, a level above gives 4095, and for 0 V the manual's two sentences give two
values, so `free` stands there (log 9). -/
def convertCode (free : BitVec 12) (vin : Level) (vref : RefLevel) : BitVec 12 :=
  if vref = 0 then (if vin < 0 then 0 else if 0 < vin then 4095 else free)
  else limitCode (vin * 4096 / (vref : Int))

/-- Does this conversion need the free value of `convertCode` (log 9)? -/
def needsFree (vin : Level) (vref : RefLevel) : Bool := decide (vref = 0) && decide (vin = 0)

/-- RAIL_LOW: the code is 0 (R63). -/
def railLow (code : BitVec 12) : Bool := code == 0

/-- RAIL_HIGH: the code is 4095 (R63). -/
def railHigh (code : BitVec 12) : Bool := code == 4095

/-- A scaled value with its CLIPPED flag (R90). -/
structure Scaled where
  value : BitVec 24
  clipped : Bool
  deriving DecidableEq, Repr

/-- floor(a × g / 4096) + o, exact (R90). -/
def scaleExact (raw : Nat) (gain : BitVec 16) (offset : BitVec 24) : Int :=
  (raw : Int) * gain.toInt / 4096 + offset.toInt

/-- The signed 24-bit range applied to an exact value (R90). -/
def clip24 (v : Int) : Scaled :=
  if v < -8388608 then ⟨BitVec.ofInt 24 (-8388608), true⟩
  else if 8388607 < v then ⟨BitVec.ofInt 24 8388607, true⟩
  else ⟨BitVec.ofInt 24 v, false⟩

/-- Scaling of a raw average with the active value of a profile (R90). -/
def scale (raw : Nat) (p : Profile) : Scaled := clip24 (scaleExact raw p.gain p.offset)

/-- The flags of a SUB record at the close of its window (R88). -/
def subFlags (w : Window) (clipped : Bool) : RecordFlags where
  clipped := clipped
  railLow := w.railLow
  railHigh := w.railHigh
  missed := decide (0 < w.misses)
  noData := decide (w.folded = 0)
  refFault := w.refFault

/-- The flags of a spot record (Table 4-2). -/
def spotFlags (code : BitVec 12) (refFault clipped : Bool) : RecordFlags where
  clipped := clipped
  railLow := railLow code
  railHigh := railHigh code
  refFault := refFault

end Sys2Proof.Machine
end

