-- ==== Sys2Proof/WellFormed.lean ====
section
/-! DEFINITION. Which terms of `Instr` a command frame can spell. The operand types already hold every
width of Table 10-4; the one length that a type does not hold is that of the READ_LATEST list (R173). -/

namespace Sys2Proof

/-- Is this a host command, one that a command frame carries (Table 10-4)? -/
def Instr.isHostCommand : Instr → Bool
  | .fetch .. => true
  | .attach .. => true
  | .detach .. => true
  | .setPort .. => true
  | .readStatus .. => true
  | .create .. => true
  | .modify .. => true
  | .release .. => true
  | .join .. => true
  | .leave .. => true
  | .adopt .. => true
  | .readSub .. => true
  | .readPlan .. => true
  | .run .. => true
  | .stop .. => true
  | .configTiming .. => true
  | .spot .. => true
  | .cancelSpot .. => true
  | .configInput .. => true
  | .readInputs .. => true
  | .setProfile .. => true
  | .readProfile .. => true
  | .armTrip .. => true
  | .ackTrip .. => true
  | .disarmTrip .. => true
  | .readTrip .. => true
  | .readSamples .. => true
  | .readEvents .. => true
  | .readLatest .. => true
  | .transactionStart .. => false
  | .commandFrame .. => false
  | .sessionTimerExpiry .. => false
  | .frameTimerExpiry => false
  | .syncEdge => false
  | .syncTimerExpiry => false
  | .warmUpExpiry .. => false
  | .slotStart .. => false
  | .conversionComplete .. => false
  | .reset .. => false
  | .resetEnd .. => false

/-- A READ_LATEST names 1 to 7 ids (R139, R173); every other term is well-formed as it stands. -/
def Instr.wellFormed : Instr → Bool
  | .readLatest _ _ ids => decide (1 ≤ ids.length ∧ ids.length ≤ Config.latestPerRead)
  | .fetch .. => true
  | .attach .. => true
  | .detach .. => true
  | .setPort .. => true
  | .readStatus .. => true
  | .create .. => true
  | .modify .. => true
  | .release .. => true
  | .join .. => true
  | .leave .. => true
  | .adopt .. => true
  | .readSub .. => true
  | .readPlan .. => true
  | .run .. => true
  | .stop .. => true
  | .configTiming .. => true
  | .spot .. => true
  | .cancelSpot .. => true
  | .configInput .. => true
  | .readInputs .. => true
  | .setProfile .. => true
  | .readProfile .. => true
  | .armTrip .. => true
  | .ackTrip .. => true
  | .disarmTrip .. => true
  | .readTrip .. => true
  | .readSamples .. => true
  | .readEvents .. => true
  | .transactionStart .. => true
  | .commandFrame .. => true
  | .sessionTimerExpiry .. => true
  | .frameTimerExpiry => true
  | .syncEdge => true
  | .syncTimerExpiry => true
  | .warmUpExpiry .. => true
  | .slotStart .. => true
  | .conversionComplete .. => true
  | .reset .. => true
  | .resetEnd .. => true

end Sys2Proof
end

