-- ==== Sys2Proof/Decode.lean ====
section
/-! DEFINITION. The decoder of command frames: code, tag and payload to a command (Table 10-4, R173), the
encoder of the same table, and the host's `decodeTableWord`. No row of spec/opcode_table.json gives bits,
so no table word spells a command (log 21). -/

namespace Sys2Proof

/-- What a port controller reads from the code and the payload of a well-formed frame (R157 steps 1 and
2, R173). -/
inductive CommandParse where
  /-- The code names no command of Table 10-4: UNKNOWN_COMMAND. -/
  | unknown
  /-- The code is listed and L is not a length it accepts: BAD_LENGTH. -/
  | badLength
  /-- A command of Table 10-4 with a length it accepts. -/
  | command (i : Instr)
  deriving DecidableEq, Repr

/-- The sixteen parameter bytes of R175, most significant byte of each field first. -/
def paramBytesOf (p : ParamBytes) : List Byte :=
  [p.input, p.period, p.phase, p.average, p.profile, p.watchFlags,
   p.low.extractLsb' 16 8, p.low.extractLsb' 8 8, p.low.extractLsb' 0 8,
   p.high.extractLsb' 16 8, p.high.extractLsb' 8 8, p.high.extractLsb' 0 8,
   p.hysteresis.extractLsb' 8 8, p.hysteresis.extractLsb' 0 8, p.debounce, p.line]

/-- Command code and payload to a command of port n, by Table 10-4. -/
def decodeCommand (n : Port) (tag code : Byte) (payload : List Byte) : CommandParse :=
  match code.toNat with
  | 0x00 => match payload with
    | [] => .command (.fetch n tag)
    | _ => .badLength
  | 0x01 => match payload with
    | [a, b, c, d, timeout, force] => .command (.attach n tag (a ++ b ++ c ++ d) timeout force)
    | _ => .badLength
  | 0x02 => match payload with
    | [] => .command (.detach n tag)
    | _ => .badLength
  | 0x03 => match payload with
    | [policy, watermark, mask, timeout] => .command (.setPort n tag policy watermark mask timeout)
    | _ => .badLength
  | 0x04 => match payload with
    | [] => .command (.readStatus n tag)
    | _ => .badLength
  | 0x10 => match payload with
    | [i, p, ph, av, pr, wf, l2, l1, l0, h2, h1, h0, y1, y0, db, ln, options] =>
      .command (.create n tag
        ⟨i, p, ph, av, pr, wf, l2 ++ l1 ++ l0, h2 ++ h1 ++ h0, y1 ++ y0, db, ln⟩ options)
    | _ => .badLength
  | 0x11 => match payload with
    | [id, i, p, ph, av, pr, wf, l2, l1, l0, h2, h1, h0, y1, y0, db, ln] =>
      .command (.modify n tag id
        ⟨i, p, ph, av, pr, wf, l2 ++ l1 ++ l0, h2 ++ h1 ++ h0, y1 ++ y0, db, ln⟩)
    | _ => .badLength
  | 0x12 => match payload with
    | [id] => .command (.release n tag id)
    | _ => .badLength
  | 0x13 => match payload with
    | [id] => .command (.join n tag id)
    | _ => .badLength
  | 0x14 => match payload with
    | [id] => .command (.leave n tag id)
    | _ => .badLength
  | 0x15 => match payload with
    | [id] => .command (.adopt n tag id)
    | _ => .badLength
  | 0x16 => match payload with
    | [id] => .command (.readSub n tag id)
    | _ => .badLength
  | 0x17 => match payload with
    | [residue] => .command (.readPlan n tag residue)
    | _ => .badLength
  | 0x20 => match payload with
    | [] => .command (.run n tag)
    | _ => .badLength
  | 0x21 => match payload with
    | [] => .command (.stop n tag)
    | _ => .badLength
  | 0x22 => match payload with
    | [slots, divider, source, timeout] => .command (.configTiming n tag slots divider source timeout)
    | _ => .badLength
  | 0x28 => match payload with
    | [input, spotTag, profile, timeout] => .command (.spot n tag input spotTag profile timeout)
    | _ => .badLength
  | 0x29 => match payload with
    | [spotTag] => .command (.cancelSpot n tag spotTag)
    | _ => .badLength
  | 0x30 => match payload with
    | [input, mode, polarity] => .command (.configInput n tag input mode polarity)
    | _ => .badLength
  | 0x31 => match payload with
    | [] => .command (.readInputs n tag)
    | _ => .badLength
  | 0x38 => match payload with
    | [index, g1, g0, o2, o1, o0] => .command (.setProfile n tag index (g1 ++ g0) (o2 ++ o1 ++ o0))
    | _ => .badLength
  | 0x39 => match payload with
    | [index] => .command (.readProfile n tag index)
    | _ => .badLength
  | 0x40 => match payload with
    | [line] => .command (.armTrip n tag line)
    | _ => .badLength
  | 0x41 => match payload with
    | [line] => .command (.ackTrip n tag line)
    | _ => .badLength
  | 0x42 => match payload with
    | [line] => .command (.disarmTrip n tag line)
    | _ => .badLength
  | 0x43 => match payload with
    | [line] => .command (.readTrip n tag line)
    | _ => .badLength
  | 0x48 => match payload with
    | [ack, max] => .command (.readSamples n tag ack max)
    | _ => .badLength
  | 0x49 => match payload with
    | [ack, max] => .command (.readEvents n tag ack max)
    | _ => .badLength
  | 0x4A =>
    if 1 ≤ payload.length ∧ payload.length ≤ Config.latestPerRead then
      .command (.readLatest n tag payload)
    else .badLength
  | _ => .unknown

/-- The port, tag, command code and payload of a host command, by Table 10-4; none for an event. -/
def encodeCommand : Instr → Option (Port × Byte × Byte × List Byte)
  | .fetch n tag => some (n, tag, 0x00, [])
  | .attach n tag label timeout force =>
    some (n, tag, 0x01, [label.extractLsb' 24 8, label.extractLsb' 16 8, label.extractLsb' 8 8,
      label.extractLsb' 0 8, timeout, force])
  | .detach n tag => some (n, tag, 0x02, [])
  | .setPort n tag policy watermark mask timeout =>
    some (n, tag, 0x03, [policy, watermark, mask, timeout])
  | .readStatus n tag => some (n, tag, 0x04, [])
  | .create n tag params options => some (n, tag, 0x10, paramBytesOf params ++ [options])
  | .modify n tag id params => some (n, tag, 0x11, id :: paramBytesOf params)
  | .release n tag id => some (n, tag, 0x12, [id])
  | .join n tag id => some (n, tag, 0x13, [id])
  | .leave n tag id => some (n, tag, 0x14, [id])
  | .adopt n tag id => some (n, tag, 0x15, [id])
  | .readSub n tag id => some (n, tag, 0x16, [id])
  | .readPlan n tag residue => some (n, tag, 0x17, [residue])
  | .run n tag => some (n, tag, 0x20, [])
  | .stop n tag => some (n, tag, 0x21, [])
  | .configTiming n tag slots divider source timeout =>
    some (n, tag, 0x22, [slots, divider, source, timeout])
  | .spot n tag input spotTag profile timeout =>
    some (n, tag, 0x28, [input, spotTag, profile, timeout])
  | .cancelSpot n tag spotTag => some (n, tag, 0x29, [spotTag])
  | .configInput n tag input mode polarity => some (n, tag, 0x30, [input, mode, polarity])
  | .readInputs n tag => some (n, tag, 0x31, [])
  | .setProfile n tag index gain offset =>
    some (n, tag, 0x38, [index, gain.extractLsb' 8 8, gain.extractLsb' 0 8,
      offset.extractLsb' 16 8, offset.extractLsb' 8 8, offset.extractLsb' 0 8])
  | .readProfile n tag index => some (n, tag, 0x39, [index])
  | .armTrip n tag line => some (n, tag, 0x40, [line])
  | .ackTrip n tag line => some (n, tag, 0x41, [line])
  | .disarmTrip n tag line => some (n, tag, 0x42, [line])
  | .readTrip n tag line => some (n, tag, 0x43, [line])
  | .readSamples n tag ack max => some (n, tag, 0x48, [ack, max])
  | .readEvents n tag ack max => some (n, tag, 0x49, [ack, max])
  | .readLatest n tag ids => some (n, tag, 0x4A, ids)
  | .transactionStart .. => none
  | .commandFrame .. => none
  | .sessionTimerExpiry .. => none
  | .frameTimerExpiry => none
  | .syncEdge => none
  | .syncTimerExpiry => none
  | .warmUpExpiry .. => none
  | .slotStart .. => none
  | .conversionComplete .. => none
  | .reset .. => none
  | .resetEnd .. => none

/-- The command that a table word spells: none, since no row of spec/opcode_table.json gives bits
(log 21). -/
def decodeTableWord (_nbits _w : Nat) : Option Instr := none

end Sys2Proof
end

