-- ==== Sys2Proof/Machine/Operands.lean ====
section
/-! DEFINITION. The argument bytes of commands: the enumerated values of Table 10-3, the ranges of R174, and
the parameter set of Table 1-3 and R175. Each reading answers none for a value its command does not accept,
which the block answers with BAD_ARGUMENT. -/

namespace Sys2Proof.Machine

/-- A byte as an index below n. -/
def indexOf (n : Nat) (b : Byte) : Option (Fin n) :=
  if h : b.toNat < n then some ⟨b.toNat, h⟩ else none

/-- A flag byte: 0 for no, 1 for yes (R174). -/
def flagOf (b : Byte) : Option Bool :=
  if b = 0 then some false else if b = 1 then some true else none

/-- Sync source (Table 10-3). -/
def sourceOf (b : Byte) : Option SyncSource :=
  if b = 0 then some .internal else if b = 1 then some .external else none

/-- Converter divider, sent as its value (R174). -/
def dividerOf (b : Byte) : Option Divider :=
  if b = 1 then some .by1 else if b = 2 then some .by2
  else if b = 4 then some .by4 else if b = 8 then some .by8 else none

/-- Input mode (Table 10-3). -/
def modeOf (b : Byte) : Option InputMode :=
  if b = 0 then some .analog else if b = 1 then some .off else if b = 2 then some .trip else none

/-- Trip polarity (Table 10-3). -/
def polarityOf (b : Byte) : Option Polarity :=
  if b = 0 then some .activeHigh else if b = 1 then some .activeLow else none

/-- Overflow policy (Table 10-3). -/
def policyOf (b : Byte) : Option Policy :=
  if b = 0 then some .keepOldest else if b = 1 then some .keepNewest else none

/-- Average count, sent as its value (R174). -/
def averageOf (b : Byte) : Option Average :=
  if b = 1 then some .a1 else if b = 2 then some .a2 else if b = 4 then some .a4
  else if b = 8 then some .a8 else if b = 16 then some .a16 else none

/-- A number with both limits included. -/
def rangeOf (lo hi : Nat) (b : Byte) : Option Nat :=
  if lo ≤ b.toNat ∧ b.toNat ≤ hi then some b.toNat else none

/-- The class mask; bits 6 and 7 are 0 (R174). -/
def maskOf (b : Byte) : Option ClassMask :=
  if b.toNat < 64 then
    some ⟨b.getLsbD 0, b.getLsbD 1, b.getLsbD 2, b.getLsbD 3, b.getLsbD 4, b.getLsbD 5⟩
  else none

/-- The profile byte of SPOT: 0 to 7, or FFH for absent (R174). -/
def spotProfileOf (b : Byte) : Option (Option ProfileNo) :=
  if b = 0xFF then some none else (indexOf 8 b).map some

/-- The options byte of CREATE: persist and self-deliver; bits 2 to 7 are 0 (R175). -/
def optionsOf (b : Byte) : Option (Bool × Bool) :=
  if b.toNat < 4 then some (b.getLsbD 0, b.getLsbD 1) else none

/-- The trip binding of a watch: absent when bit 1 of the watch flags is 0, and byte 15 is then not checked
(R175). -/
def bindingOf (b : ParamBytes) : Option (Option LineNo) :=
  if b.watchFlags.getLsbD 1 then (indexOf 4 b.line).map some else some none

/-- The limits, hysteresis and debounce of a watch part are in range (Table 1-3, R101). -/
def watchInRange (b : ParamBytes) : Bool :=
  decide (b.low.toInt < b.high.toInt) &&
  decide ((b.hysteresis.toNat : Int) ≤ b.high.toInt - b.low.toInt) &&
  decide (1 ≤ b.debounce.toNat ∧ b.debounce.toNat ≤ 8)

/-- The watch part: absent when bit 0 of the watch flags is 0, and its fields are then not checked (R3,
R175). -/
def watchOf (b : ParamBytes) : Option (Option WatchPart) :=
  if b.watchFlags.getLsbD 0 then
    if watchInRange b then
      (bindingOf b).map fun trip => some ⟨b.low, b.high, b.hysteresis, b.debounce.toNat, trip⟩
    else none
  else some none

/-- A parameter set checked against Table 1-3 (R3, R175). -/
def paramsOf (b : ParamBytes) : Option Params :=
  match indexOf 16 b.input, indexOf 7 b.period, averageOf b.average, indexOf 8 b.profile, watchOf b with
  | some input, some period, some average, some profile, some watch =>
    if b.phase.toNat < 2 ^ period.val ∧ b.watchFlags.toNat < 4 then
      some ⟨input, period, b.phase.toNat, average, profile, watch⟩
    else none
  | _, _, _, _, _ => none

/-- The value of an average count. -/
def Average.count : Average → Nat
  | .a1 => 1
  | .a2 => 2
  | .a4 => 4
  | .a8 => 8
  | .a16 => 16

/-- The value of a converter divider; it is also the slot time in microseconds (section 3.7). -/
def Divider.value : Divider → Nat
  | .by1 => 1
  | .by2 => 2
  | .by4 => 4
  | .by8 => 8

/-- The input that a trip line drives: line t drives AIN(12 + t) (R114). -/
def lineInput (t : LineNo) : InputNo := ⟨12 + t.val, by omega⟩

/-- The trip line of an input, for AIN12 to AIN15 (R51). -/
def inputLine (k : InputNo) : Option LineNo :=
  if h : 12 ≤ k.val then some ⟨k.val - 12, by omega⟩ else none

end Sys2Proof.Machine
end

