-- ==== Sys2Proof/Machine/Formats.lean ====
section
/-! DEFINITION. The bytes of frames and records (chapter 10): byte and bit order, the CRC of R152, the frame
check of R151, response frames (R172), parameter sets (R175), sample records (R177) and event records
(R178). -/

namespace Sys2Proof.Machine

/-! ### Byte and bit order (R151, R174) -/

/-- The low k bytes of a number, most significant byte first (R174). -/
def bytesOf : Nat → Nat → List Byte
  | 0, _ => []
  | k + 1, v => BitVec.ofNat 8 (v >>> (8 * k)) :: bytesOf k v

/-- A number as one byte. -/
def byteOf (v : Nat) : Byte := BitVec.ofNat 8 v

/-- A flag byte (R174). -/
def flagByte (b : Bool) : Byte := if b then 1 else 0

/-- The bits of a byte, most significant bit first (R150). -/
def bitsOf (b : Byte) : List Bool :=
  [b.getLsbD 7, b.getLsbD 6, b.getLsbD 5, b.getLsbD 4, b.getLsbD 3, b.getLsbD 2, b.getLsbD 1, b.getLsbD 0]

/-- Eight bits gathered into a byte, most significant bit first (R151). -/
def byteOfBits (b7 b6 b5 b4 b3 b2 b1 b0 : Bool) : Byte :=
  BitVec.ofNat 8 (128 * b7.toNat + 64 * b6.toNat + 32 * b5.toNat + 16 * b4.toNat
    + 8 * b3.toNat + 4 * b2.toNat + 2 * b1.toNat + b0.toNat)

/-- The whole bytes of the bits sampled on MOSIn; the bits of an incomplete last byte are discarded
(R151). -/
def gather : List Bool → List Byte
  | b7 :: b6 :: b5 :: b4 :: b3 :: b2 :: b1 :: b0 :: rest =>
    byteOfBits b7 b6 b5 b4 b3 b2 b1 b0 :: gather rest
  | _ => []

/-- The bits of a list of bytes in the order in which they are shifted. -/
def bitStream (l : List Byte) : List Bool := l.flatMap bitsOf

/-- What MISOn carries in k clocks: the copy, then FFH to the end of the transaction (R150). -/
def shiftedOut (copy : List Byte) (k : Nat) : List Bool :=
  (bitStream copy ++ List.replicate k true).take k

/-- What MISOn shows at the fall of SSn: the first bit of the copy, or of the FFH fill (R150). -/
def presented (copy : List Byte) : MisoPin := .driven ((bitStream copy).headD true)

/-- What MISOn shows at k clocks of a transaction with this copy (R150). -/
def carriedBits (copy : List Byte) (k : Nat) : List MisoPin := (shiftedOut copy k).map .driven

/-- What MISOn shows at k clocks of a transaction that is ignored (R171). -/
def carriedNothing (k : Nat) : List MisoPin := List.replicate k .highImpedance

/-! ### CRC (R152) -/

/-- One data bit enters the CRC register (R152). -/
def crcBit (reg : BitVec 16) (b : Bool) : BitVec 16 :=
  if reg.getLsbD 15 != b then (reg <<< 1) ^^^ 0x1021 else reg <<< 1

/-- The CRC of a list of bytes: the register starts at FFFFH, bits enter most significant first, no final
inversion (R152). -/
def crc (l : List Byte) : BitVec 16 := (bitStream l).foldl crcBit 0xFFFF

/-- The bytes with their CRC behind them, high byte first. -/
def withCrc (l : List Byte) : List Byte := l ++ bytesOf 2 (crc l).toNat

/-! ### Command frames (R151) -/

/-- A well-formed command frame. -/
structure Frame where
  code : Byte
  tag : Byte
  payload : List Byte
  deriving DecidableEq, Repr

/-- The bytes of a command frame (Table 10-1). -/
def frameBytes (f : Frame) : List Byte :=
  withCrc ([f.code, f.tag, byteOf f.payload.length] ++ f.payload)

/-- The checks of R151 on the bytes received: the frame when it is well-formed, none when it is malformed. -/
def parseFrame (bytes : List Byte) : Option Frame :=
  match bytes with
  | code :: tag :: len :: rest =>
    let payload := rest.take len.toNat
    let trailer := rest.drop len.toNat
    match trailer with
    | hi :: lo :: fill =>
      if len.toNat ≤ Config.payloadLimit ∧ fill.all (· == 0xFF) = true ∧
          [hi, lo] = bytesOf 2 (crc ([code, tag, len] ++ payload)).toNat
      then some ⟨code, tag, payload⟩ else none
    | _ => none
  | _ => none

/-! ### Response frames (R150, R172) -/

/-- The value of a status code (Table 10-7). -/
def Status.value : Status → Byte
  | .ok => 0x00
  | .badFrame => 0x01
  | .unknownCommand => 0x02
  | .badLength => 0x03
  | .badArgument => 0x04
  | .notAttached => 0x05
  | .already => 0x06
  | .role => 0x07
  | .notOwner => 0x08
  | .notFound => 0x09
  | .noEntry => 0x0A
  | .noCapacity => 0x0B
  | .inputMode => 0x0C
  | .inUse => 0x0D
  | .busyState => 0x0E
  | .stagedConflict => 0x0F
  | .queueFull => 0x10
  | .portLimit => 0x11
  | .duplicate => 0x12
  | .inFlight => 0x13
  | .notVoter => 0x14
  | .notMember => 0x15
  | .notOrphan => 0x16
  | .pinMode => 0x17
  | .tripState => 0x18
  | .badAck => 0x19
  | .pending => 0x1A

/-- The bytes of a response frame with the OVERRUN flag in bit 7 of the status byte (Table 10-2, R172). -/
def responseBytes (overrun : Bool) (r : Response) : List Byte :=
  withCrc ([(if overrun then r.status.value ||| 0x80 else r.status.value), r.tag,
    byteOf r.payload.length] ++ r.payload)

/-- The copy that a port controller takes of its holder when SSn falls (R150); FFH fill follows it. -/
def holderCopy (p : PortCtl) : List Byte :=
  match p.holder with
  | .empty => []
  | .pending => responseBytes p.overrun ⟨.pending, p.pendingTag, []⟩
  | .ready r => responseBytes p.overrun r

/-! ### Enumerated values (Table 10-3) -/

/-- Subscription state. -/
def SubState.value : SubState → Byte
  | .free => 0
  | .staged => 1
  | .active => 2
  | .closing => 3

/-- Sequencer state. -/
def SeqState.value : SeqState → Byte
  | .stopped => 0
  | .starting => 1
  | .running => 2
  | .halting => 3

/-- Sync source. -/
def SyncSource.value : SyncSource → Byte
  | .internal => 0
  | .external => 1

/-- Sync state. -/
def SyncState.value : SyncState → Byte
  | .off => 0
  | .waiting => 1
  | .locked => 2
  | .fallback => 3

/-- Converter power state. -/
def PowerState.value : PowerState → Byte
  | .off => 0
  | .warming => 1
  | .ready => 2
  | .busy => 3

/-- Reference-OK flag. -/
def RefFlag.value : RefFlag → Byte
  | .ok => 0
  | .fault => 1

/-- Input mode. -/
def InputMode.value : InputMode → Byte
  | .analog => 0
  | .off => 1
  | .trip => 2

/-- Trip polarity. -/
def Polarity.value : Polarity → Byte
  | .activeHigh => 0
  | .activeLow => 1

/-- Trip line state. -/
def LineState.value : LineState → Byte
  | .disarmed => 0
  | .armed => 1
  | .tripped => 2

/-- Watch state. -/
def WatchState.value : WatchState → Byte
  | .normal => 0
  | .highPending => 1
  | .highAlarm => 2
  | .lowPending => 3
  | .lowAlarm => 4

/-- Overflow policy. -/
def Policy.value : Policy → Byte
  | .keepOldest => 0
  | .keepNewest => 1

/-- Role. -/
def Role.value : Role → Byte
  | .monitor => 0
  | .control => 1

/-- Session state. -/
def SessionState.value : SessionState → Byte
  | .detached => 0
  | .attached => 1

/-- Reset cause. -/
def ResetCause.value : ResetCause → Byte
  | .none => 0
  | .powerOn => 1
  | .resetPin => 2

/-- Record kind. -/
def RecordKind.value : RecordKind → Byte
  | .sub => 0
  | .spot => 1
  | .empty => 2

/-- A port or none, none as FFH (R174). -/
def portOptByte : Option Port → Byte
  | none => 0xFF
  | some n => portByte n

/-- A set of ports: bit n is set when port n is a member (R174). -/
def PortSet.value (ps : PortSet) : Byte :=
  byteOf (ps.p0.toNat + 2 * ps.p1.toNat + 4 * ps.p2.toNat)

/-- The class mask (R174). -/
def ClassMask.value (m : ClassMask) : Byte :=
  byteOf (m.watch.toNat + 2 * m.subscription.toNat + 4 * m.trip.toNat + 8 * m.timing.toNat
    + 16 * m.system.toNat + 32 * m.spot.toNat)

/-! ### Parameter sets (R175) -/

/-- The watch bytes 5 to 15 of a parameter set; absent parts are 0. -/
def watchBytes : Option WatchPart → List Byte
  | none => List.replicate 11 0
  | some w =>
    let trip : Byte × Byte := match w.trip with
      | none => (1, 0)
      | some t => (3, byteOf t.val)
    trip.1 :: (bytesOf 3 w.low.toNat ++ bytesOf 3 w.high.toNat ++ bytesOf 2 w.hysteresis.toNat
      ++ [byteOf w.debounce, trip.2])

/-- The sixteen bytes of a parameter set; an absent set is 16 bytes of 0 (R176). -/
def paramSetBytes : Option Params → List Byte
  | none => List.replicate 16 0
  | some p => [byteOf p.input.val, byteOf p.period.val, byteOf p.phase, byteOf p.average.count,
      byteOf p.profile.val] ++ watchBytes p.watch

/-! ### Sample records (R177) -/

/-- The flags byte of a sample record (Table 10-6). -/
def RecordFlags.value (f : RecordFlags) : Byte :=
  byteOf (f.clipped.toNat + 2 * f.railLow.toNat + 4 * f.railHigh.toNat + 8 * f.missed.toNat
    + 16 * f.noData.toNat + 32 * f.refFault.toNat)

/-- Byte 0 of a sample record: kind and presence (Table 10-6). -/
def presenceByte (r : SampleRecord) : Byte :=
  byteOf (64 * r.kind.value.toNat + 32 * r.frame.isSome.toNat + 16 * r.value.isSome.toNat
    + 8 * r.raw.isSome.toNat + 4 * r.watch.isSome.toNat)

/-- A present field's number, or 0 (R174). -/
def present {w : Nat} : Option (BitVec w) → Nat
  | none => 0
  | some v => v.toNat

/-- The number of a watch state, or 0 when absent. -/
def watchValue : Option WatchState → Nat
  | none => 0
  | some w => w.value.toNat

/-- The sixteen bytes of a sample record (Table 10-6). -/
def sampleBytes (r : SampleRecord) : List Byte :=
  [presenceByte r, r.ident] ++ bytesOf 2 r.sequence.toNat ++ bytesOf 3 (present r.frame)
    ++ bytesOf 3 (present r.value)
    ++ bytesOf 2 (4096 * watchValue r.watch + present r.raw)
    ++ [byteOf r.folded, r.generation, byteOf r.lost, r.flags.value]

/-- The record of kind EMPTY for an empty latest table entry (R139). -/
def emptyRecord (i : SubId) : SampleRecord := { kind := .empty, ident := idByte i }

/-! ### Event records (R178) -/

/-- The count byte of an event record: 0 for every code but EVENTS_LOST. -/
def countByte (e : EventEntry) : Byte := if e.code = .eventsLost then byteOf e.count else 0

/-- The eight bytes of an event record. -/
def eventBytes (e : EventEntry) : List Byte :=
  [e.code.value, e.subject] ++ bytesOf 3 e.frame.toNat ++ bytesOf 2 e.detail.toNat ++ [countByte e]

end Sys2Proof.Machine
end

