-- ==== Sys2Proof/Machine/Taking.lean ====
section
/-! DEFINITION. How a port controller takes a frame and a command: the session timer (R163), the response
holder (R153 to R155), the checks of R157, and the one shared operation by which a block takes a command
whole and its answer becomes READY (R154). -/

namespace Sys2Proof.Machine

/-- An event's meaning outside a reset; while a reset lasts nothing is taken (R170). -/
def unlessReset (f : State → State) (s : State) : Host.Outcome State Fault Refusal :=
  .next (if s.resetting.isSome then s else f s)

/-- What the session timer runs with for a timeout: stopped for 0, else the units of 10 ms (R163). -/
def timerFor (timeout : Byte) : Option Nat := if timeout = 0 then none else some timeout.toNat

/-- The port takes a well-formed frame: the session timer of an ATTACHED port restarts (R163). -/
def restartTimer (n : Port) (s : State) : State :=
  let p := s.port n
  if p.session = .attached then s.setPort n { p with timer := timerFor p.timeout } else s

/-- A frame of a transaction begun while the holder was PENDING is discarded: the overrun flag is set
(R155). -/
def discardFrame (n : Port) (s : State) : State := s.setPort n { s.port n with overrun := true }

/-- A command is put into PENDING: the overrun flag is cleared, the held content discarded, the tag recorded
(R153). `c` is then the command in execution (R154), none when the frame spells no command. -/
def openCommand (n : Port) (tag : Byte) (c : Option Instr) (s : State) : State :=
  s.setPort n { s.port n with
    overrun := false, holder := .pending, pendingTag := tag, inExec := c }

/-- The response is complete: it is placed in the holder with the command's tag, and the holder is READY
(R154). -/
def respond (n : Port) (tag : Byte) (r : Reply) (s : State) : State :=
  s.setPort n { s.port n with holder := .ready ⟨r.status, tag, r.payload⟩, inExec := none }

/-- The commands that need the CONTROL role (Table 10-4, R157 step 4). -/
def needsControl : Instr → Bool
  | .create .. => true
  | .modify .. => true
  | .release .. => true
  | .adopt .. => true
  | .run .. => true
  | .stop .. => true
  | .configTiming .. => true
  | .configInput .. => true
  | .setProfile .. => true
  | .armTrip .. => true
  | .ackTrip .. => true
  | .disarmTrip .. => true
  | .fetch .. => false
  | .attach .. => false
  | .detach .. => false
  | .setPort .. => false
  | .readStatus .. => false
  | .join .. => false
  | .leave .. => false
  | .readSub .. => false
  | .readPlan .. => false
  | .spot .. => false
  | .cancelSpot .. => false
  | .readInputs .. => false
  | .readProfile .. => false
  | .readTrip .. => false
  | .readSamples .. => false
  | .readEvents .. => false
  | .readLatest .. => false
  | .transactionStart .. => false
  | .commandFrame .. => false
  | .sessionTimerExpiry .. => false
  | .frameTimerExpiry => false
  | .syncEdge => false
  | .syncTimerExpiry => false
  | .warmUpExpiry .. => false
  | .slotStart .. => false
  | .conversionComplete .. => false
  | .reset .. => false
  | .resetEnd .. => false

/-- Is the command ATTACH, the one that a DETACHED port may run (R157 step 3)? -/
def isAttach (c : Instr) : Bool :=
  match c with
  | .attach .. => true
  | _ => false

/-- The checks of R157 on a command of Table 10-4, in their order: a length that the code does not accept,
a DETACHED port, a MONITOR port. None when the command passes. -/
def portCheck (n : Port) (c : Instr) (s : State) : Option Status :=
  if c.wellFormed = false then some .badLength
  else if (s.port n).session = .detached ∧ isAttach c = false then some .notAttached
  else if needsControl c = true ∧ (s.port n).role = .monitor then some .role
  else none

/-- A command is taken whole (R154). When a COMMAND_FRAME has put it into PENDING, the block takes it now.
When none has, the row stands for the whole command: its well-formed frame is taken (R153, R163) and the
command with it. When another command is in execution on the port, the frame is discarded (R155). The
command is checked (R157), the block answers and the answer becomes READY (log 5). -/
def takeCommand (n : Port) (tag : Byte) (c : Instr) (block : State → Reply × State) (s : State) : State :=
  if (s.port n).holder = .pending ∧ (s.port n).inExec ≠ some c then discardFrame n (restartTimer n s)
  else
    let s1 := if (s.port n).holder = .pending then s else openCommand n tag (some c) (restartTimer n s)
    match portCheck n c s1 with
    | some st => respond n tag (Reply.refuse st) s1
    | none => respond n tag (block s1).1 (block s1).2

/-- The meaning of a host command: `takeCommand` outside a reset (R154, R170). -/
def hostCommand (n : Port) (tag : Byte) (c : Instr) (block : State → Reply × State) (s : State) :
    Host.Outcome State Fault Refusal :=
  unlessReset (takeCommand n tag c block) s

end Sys2Proof.Machine
end

