-- ==== Sys2Proof/Machine/Delivery.lean ====
section
/-! DEFINITION. The Delivery Unit (chapter 8): placing sample records (R132 to R135), the latest table
(R138), and the reads READ_SAMPLES, READ_EVENTS and READ_LATEST. -/

namespace Sys2Proof.Machine

/-! ### Placement (R132 to R135) -/

/-- A copy arrives at a sample queue, by the policy of its port (R133, R134, R135). -/
def placeCopy (policy : Policy) (r : SampleRecord) (q : PortQueues) : PortQueues :=
  if q.samples.length < Config.sampleQueueSize then
    { q with samples := q.samples ++ [{ r with lost := q.lost }], lost := 0 }
  else match policy with
    | .keepOldest => { q with lost := saturate Config.lostLimit q.lost }
    | .keepNewest =>
      { q with
        samples := q.samples.drop 1 ++ [{ r with lost := saturate Config.lostLimit q.lost }]
        sampleUnacked := q.sampleUnacked - 1
        lost := 0 }

/-- One copy of a record for port n, if it is ATTACHED (R132); ATTNn is judged again (R144). -/
def placeSample (r : SampleRecord) (n : Port) (s : State) : State :=
  if attached s n then
    judgeAttn n (s.setQueues n (placeCopy (s.port n).policy r (s.queues n)))
  else s

/-- One copy of a record for each port of a set, ascending. -/
def placeSamples (readers : PortSet) (r : SampleRecord) (s : State) : State :=
  let one (n : Port) (s : State) : State := if readers.has n then placeSample r n s else s
  one 2 (one 1 (one 0 s))

/-- DLV takes a SUB record: the latest table entry of its id first, with lost count 0 (R138), then one copy
for each port of the reader set as it stands (R132). -/
def deliverSub (i : SubId) (r : SampleRecord) (s : State) : State :=
  placeSamples (s.record i).readers r (s.setLatest i (some { r with lost := 0 }))

/-! ### READ_SAMPLES (R136) -/

/-- READ_SAMPLES of port n with acknowledgement a and maximum m (R136). -/
def readSamplesBlock (n : Port) (a m : Byte) (s : State) : Reply × State :=
  let q := s.queues n
  if q.sampleUnacked < a.toNat then
    (⟨.badAck, [byteOf q.sampleUnacked, byteOf q.samples.length]⟩, s)
  else
    let rest := q.samples.drop a.toNat
    let back := rest.take (min m.toNat Config.samplesPerRead)
    (Reply.ok ([byteOf rest.length, byteOf back.length] ++ back.flatMap sampleBytes),
      judgeAttn n (s.setQueues n { q with samples := rest, sampleUnacked := back.length }))

/-- Meaning of READ_SAMPLES (R136). -/
def execReadSamples (n : Port) (tag ack max : Byte) (s : State) : Host.Outcome State Fault Refusal :=
  hostCommand n tag (.readSamples n tag ack max) (readSamplesBlock n ack max) s

/-! ### READ_EVENTS (R143) -/

/-- The entry that an acknowledged EVENTS_LOST leaves when its count has grown since it was returned
(R143). -/
def carryOver (fn : FrameNo) (e : EventEntry) : List EventEntry :=
  if e.code = .eventsLost ∧ e.reported < e.count then
    [{ code := .eventsLost, subject := 0, frame := fn, detail := e.detail,
       count := e.count - e.reported, reported := 0 }]
  else []

/-- The event queue after its a head entries are removed (R143). -/
def removeEvents (fn : FrameNo) (a : Nat) (q : List EventEntry) : List EventEntry :=
  q.drop a ++ (q.take a).flatMap (carryOver fn)

/-- The reported count of a returned EVENTS_LOST entry becomes its count (R143). -/
def markReported (e : EventEntry) : EventEntry :=
  if e.code = .eventsLost then { e with reported := e.count } else e

/-- READ_EVENTS of port n with acknowledgement a and maximum m (R143). -/
def readEventsBlock (n : Port) (a m : Byte) (s : State) : Reply × State :=
  let q := s.queues n
  if q.eventUnacked < a.toNat then
    (⟨.badAck, [byteOf q.eventUnacked, byteOf q.events.length]⟩, s)
  else
    let rest := removeEvents s.seq.fn a.toNat q.events
    let k := min m.toNat Config.eventsPerRead
    let back := rest.take k
    (Reply.ok ([byteOf rest.length, byteOf back.length] ++ back.flatMap eventBytes),
      judgeAttn n (s.setQueues n
        { q with events := back.map markReported ++ rest.drop k, eventUnacked := back.length }))

/-- Meaning of READ_EVENTS (R143). -/
def execReadEvents (n : Port) (tag ack max : Byte) (s : State) : Host.Outcome State Fault Refusal :=
  hostCommand n tag (.readEvents n tag ack max) (readEventsBlock n ack max) s

/-! ### READ_LATEST (R139) -/

/-- The answer for one id: the stored record, or a record of kind EMPTY (R139). -/
def latestAnswer (s : State) (i : SubId) : SampleRecord :=
  match s.dlv.latest[i] with
  | some r => r
  | none => emptyRecord i

/-- The ids of a list of bytes, none if any is outside 0 to 31. -/
def idsOf : List Byte → Option (List SubId)
  | [] => some []
  | b :: rest =>
    match indexOf 32 b, idsOf rest with
    | some i, some l => some (i :: l)
    | _, _ => none

/-- READ_LATEST (R139). -/
def readLatestBlock (ids : List Byte) (s : State) : Reply × State :=
  match idsOf ids with
  | none => (Reply.refuse .badArgument, s)
  | some l => (Reply.ok (l.flatMap fun i => sampleBytes (latestAnswer s i)), s)

/-- Meaning of READ_LATEST (R139). -/
def execReadLatest (n : Port) (tag : Byte) (ids : List Byte) (s : State) :
    Host.Outcome State Fault Refusal :=
  hostCommand n tag (.readLatest n tag ids) (readLatestBlock ids) s

end Sys2Proof.Machine
end

