-- ==== Sys2Proof/Machine/Trips.lean ====
section
/-! DEFINITION. The Trip Controller (chapter 7): driving the pins (R115), tripping (R118, R119), the release
(R120, R122, R123), and the commands ARM_TRIP, ACK_TRIP, DISARM_TRIP and READ_TRIP. -/

namespace Sys2Proof.Machine

/-! ### Driving the pin (R52, R115) -/

/-- The electrical state of a pin for its mode, its polarity and whether its line is TRIPPED (R52, R115). -/
def driveFor (mode : InputMode) (pol : Polarity) (tripped : Bool) : PinDrive :=
  match mode with
  | .analog => .analogInput
  | .off => .highImpedance
  | .trip => match pol with
    | .activeHigh => if tripped then .drivenHigh else .drivenLow
    | .activeLow => if tripped then .drivenLow else .drivenHigh

/-- The state with the pin of line t at the level that the line's state gives (R115). -/
def drivePin (t : LineNo) (s : State) : State :=
  let k := lineInput t
  let x := s.input k
  s.setInput k { x with drive := driveFor x.mode x.polarity ((s.line t).state == .tripped) }

/-- A line record is replaced and its pin takes the new level at the same moment (R115). -/
def updateLine (t : LineNo) (l : Line) (s : State) : State := drivePin t (s.setLine t l)

/-- A trip line as an event's subject. -/
def lineByte (t : LineNo) : Byte := byteOf t.val

/-! ### Causes of trips and releases (R119, R123, Table 10-8) -/

/-- Cause ALARM of TRIP_ASSERTED. -/
def causeAlarm : Byte := 0
/-- Cause ARM of TRIP_ASSERTED. -/
def causeArm : Byte := 1
/-- Cause RENEWED of TRIP_ASSERTED. -/
def causeRenewed : Byte := 2
/-- Cause ACK of TRIP_RELEASED. -/
def causeAck : Byte := 0
/-- Cause EXIT of TRIP_RELEASED. -/
def causeExit : Byte := 1
/-- Cause SESSION_END of TRIP_RELEASED. -/
def causeSessionEnd : Byte := 2

/-! ### Tripping and release -/

/-- A move into TRIPPED (R119). The arming set is the one the caller gives. -/
def tripLine (t : LineNo) (arming : PortSet) (cause : Byte) (id : Byte) (s : State) : State :=
  let l := s.line t
  raise PortSet.all .tripAsserted (lineByte t) (causeDetail cause id)
    (updateLine t { state := .tripped, arming := arming, ack := PortSet.empty,
                    count := saturate Config.tripCountLimit l.count } s)

/-- An ENTRY report of subscription i for line t (R118). -/
def entryReport (t : LineNo) (i : SubId) (s : State) : State :=
  let l := s.line t
  match l.state with
  | .disarmed => s
  | .armed => tripLine t l.arming causeAlarm (idByte i) s
  | .tripped =>
    raise PortSet.all .tripAsserted (lineByte t) (causeDetail causeRenewed (idByte i))
      (updateLine t { l with ack := PortSet.empty } s)

/-- The release condition of a TRIPPED line (R122). -/
def releaseHolds (t : LineNo) (s : State) : Bool :=
  let l := s.line t
  l.state == .tripped && !l.arming.isEmpty && l.ack == l.arming && (s.alarms t).isEmpty

/-- A line is released (R123). -/
def releaseLine (t : LineNo) (cause low : Byte) (s : State) : State :=
  raise PortSet.all .tripReleased (lineByte t) (causeDetail cause low)
    (updateLine t { s.line t with state := .armed, ack := PortSet.empty } s)

/-- The release condition is judged, and the line released when it holds (R122, R123). -/
def judgeRelease (t : LineNo) (cause low : Byte) (s : State) : State :=
  if releaseHolds t s then releaseLine t cause low s else s

/-- An EXIT report of subscription i for line t (R120). -/
def exitReport (t : LineNo) (i : SubId) (s : State) : State := judgeRelease t causeExit (idByte i) s

/-! ### ARM_TRIP (R116, R117) -/

/-- The arming of line t by port n (R117). The lowest id of the alarm set goes into the detail of a trip
with cause ARM (R119). -/
def armLine (n : Port) (t : LineNo) (s : State) : State :=
  let l := s.line t
  match l.state with
  | .disarmed =>
    match s.alarms t with
    | [] => updateLine t { l with state := .armed, arming := PortSet.empty.add n } s
    | i :: _ => tripLine t (PortSet.empty.add n) causeArm (idByte i) s
  | .armed => updateLine t { l with arming := l.arming.add n } s
  | .tripped => updateLine t { l with arming := l.arming.add n } s

/-- ARM_TRIP of port n (R116, R117). -/
def armTripBlock (n : Port) (line : Byte) (s : State) : Reply × State :=
  match indexOf 4 line with
  | none => (Reply.refuse .badArgument, s)
  | some t =>
    if (s.input (lineInput t)).mode ≠ .trip then (Reply.refuse .pinMode, s)
    else
      let s' := armLine n t s
      (Reply.ok [line, (s'.line t).state.value, flagByte ((s'.line t).ack.has n)], s')

/-- Meaning of ARM_TRIP (R116, R117). -/
def execArmTrip (n : Port) (tag line : Byte) (s : State) : Host.Outcome State Fault Refusal :=
  hostCommand n tag (.armTrip n tag line) (armTripBlock n line) s

/-! ### ACK_TRIP (R121) -/

/-- ACK_TRIP of port n (R121). -/
def ackTripBlock (n : Port) (line : Byte) (s : State) : Reply × State :=
  match indexOf 4 line with
  | none => (Reply.refuse .badArgument, s)
  | some t =>
    let l := s.line t
    if l.arming.has n = false then (Reply.refuse .notMember, s)
    else if l.state ≠ .tripped then (Reply.refuse .tripState, s)
    else
      let s' := judgeRelease t causeAck (portByte n) (updateLine t { l with ack := l.ack.add n } s)
      (Reply.ok [line, (s'.line t).state.value], s')

/-- Meaning of ACK_TRIP (R121). -/
def execAckTrip (n : Port) (tag line : Byte) (s : State) : Host.Outcome State Fault Refusal :=
  hostCommand n tag (.ackTrip n tag line) (ackTripBlock n line) s

/-! ### DISARM_TRIP (R124) -/

/-- A port leaves the arming set of a line that is not TRIPPED; an emptied set disarms the line (R124,
R126). -/
def leaveArming (n : Port) (t : LineNo) (s : State) : State :=
  let l := s.line t
  let arming := l.arming.drop n
  updateLine t { l with
    state := if arming.isEmpty then .disarmed else l.state
    arming := arming
    ack := l.ack.drop n } s

/-- DISARM_TRIP of port n (R124). -/
def disarmTripBlock (n : Port) (line : Byte) (s : State) : Reply × State :=
  match indexOf 4 line with
  | none => (Reply.refuse .badArgument, s)
  | some t =>
    let l := s.line t
    if l.arming.has n = false then (Reply.refuse .notMember, s)
    else if l.state = .tripped then (Reply.refuse .tripState, s)
    else
      let s' := leaveArming n t s
      (Reply.ok [line, (s'.line t).state.value], s')

/-- Meaning of DISARM_TRIP (R124). -/
def execDisarmTrip (n : Port) (tag line : Byte) (s : State) : Host.Outcome State Fault Refusal :=
  hostCommand n tag (.disarmTrip n tag line) (disarmTripBlock n line) s

/-! ### READ_TRIP (R127) -/

/-- READ_TRIP (R127). -/
def readTripBlock (line : Byte) (s : State) : Reply × State :=
  match indexOf 4 line with
  | none => (Reply.refuse .badArgument, s)
  | some t =>
    let l := s.line t
    let x := s.input (lineInput t)
    (Reply.ok ([l.state.value, l.arming.value, l.ack.value] ++ bytesOf 2 l.count
      ++ [x.mode.value, x.polarity.value]), s)

/-- Meaning of READ_TRIP (R127). -/
def execReadTrip (n : Port) (tag line : Byte) (s : State) : Host.Outcome State Fault Refusal :=
  hostCommand n tag (.readTrip n tag line) (readTripBlock line) s

/-! ### Session end (R126) -/

/-- One line's part of TRIPC's share of a session end (R126). -/
def tripLineSessionEnd (n : Port) (t : LineNo) (s : State) : State :=
  let l := s.line t
  if l.arming.has n = false then s
  else match l.state with
    | .disarmed => s
    | .armed => leaveArming n t s
    | .tripped =>
      judgeRelease t causeSessionEnd (portByte n)
        (updateLine t { l with arming := l.arming.drop n, ack := l.ack.drop n } s)

/-- TRIPC's share of a session end: the four lines in ascending order (R126). -/
def tripSessionEnd (n : Port) (s : State) : State :=
  lineNos.foldl (fun s t => tripLineSessionEnd n t s) s

end Sys2Proof.Machine
end

