-- ==== Sys2Proof/Machine/Watches.lean ====
section
/-! DEFINITION. The Watch Unit (chapter 6): the state machine of a watch (R103 to R105), the alarm sets
(R107), the handling of one record (R109), and the start, reconfiguration and end of a watch (R110 to
R112). -/

namespace Sys2Proof.Machine

/-! ### Watches and alarm sets -/

/-- Is this an alarm state? -/
def WatchState.alarm : WatchState → Bool
  | .normal => false
  | .highPending => false
  | .highAlarm => true
  | .lowPending => false
  | .lowAlarm => true

/-- Does a watch belong to the alarm set of line t (R107)? -/
def inAlarmSet (w : Option Watch) (t : LineNo) : Bool :=
  match w with
  | none => false
  | some w => !w.frozen && w.state.alarm && w.part.trip == some t

/-- An id joins an ascending list of ids. -/
def insertId (i : SubId) : List SubId → List SubId
  | [] => [i]
  | j :: l => if i < j then i :: j :: l else if i = j then j :: l else j :: insertId i l

/-- The alarm set of a line after the watch of id i has become w (R107). -/
def alarmAfter (i : SubId) (w : Option Watch) (t : LineNo) (l : List SubId) : List SubId :=
  if inAlarmSet w t then insertId i l else l.filter (· != i)

/-- The watch of an id is replaced, and every alarm set follows at the same moment (R107). -/
def updateWatch (i : SubId) (w : Option Watch) (s : State) : State :=
  s.withWtu { watches := put s.wtu.watches i w
              alarms := tabulate fun t => alarmAfter i w t s.wtu.alarms[t] }

/-! ### The state machine (R103 to R105) -/

/-- A report to the Trip Controller (R108). -/
inductive Report where
  | entry
  | exit
  deriving DecidableEq, Repr

/-- What one evaluation does: the new state and count, the events in order, the report if one is due. -/
structure WatchMove where
  state : WatchState
  count : Nat
  events : List EventCode := []
  report : Option Report := none
  deriving DecidableEq, Repr

/-- The high release level (R101). -/
def highRelease (p : WatchPart) : Int := p.high.toInt - p.hysteresis.toNat

/-- The low release level (R101). -/
def lowRelease (p : WatchPart) : Int := p.low.toInt + p.hysteresis.toNat

/-- A first value above the high limit: HIGH_ALARM with debounce 1, else HIGH_PENDING with count 1 (R103,
R104). -/
def riseHigh (debounce : Nat) : WatchMove :=
  if debounce = 1 then ⟨.highAlarm, 1, [.watchAlarmHigh], some .entry⟩ else ⟨.highPending, 1, [], none⟩

/-- A first value below the low limit (R103, R104). -/
def riseLow (debounce : Nat) : WatchMove :=
  if debounce = 1 then ⟨.lowAlarm, 1, [.watchAlarmLow], some .entry⟩ else ⟨.lowPending, 1, [], none⟩

/-- One evaluation of a watch on the value v (R102 to R105). -/
def moveWatch (w : Watch) (v : Int) : WatchMove :=
  let p := w.part
  let above : Prop := p.high.toInt < v
  let below : Prop := v < p.low.toInt
  match w.state with
  | .normal =>
    if above then riseHigh p.debounce
    else if below then riseLow p.debounce
    else ⟨.normal, 0, [], none⟩
  | .highPending =>
    if above then
      if w.count + 1 < p.debounce then ⟨.highPending, w.count + 1, [], none⟩
      else ⟨.highAlarm, p.debounce, [.watchAlarmHigh], some .entry⟩
    else if below then ⟨.lowPending, 1, [], none⟩
    else ⟨.normal, 0, [], none⟩
  | .lowPending =>
    if below then
      if w.count + 1 < p.debounce then ⟨.lowPending, w.count + 1, [], none⟩
      else ⟨.lowAlarm, p.debounce, [.watchAlarmLow], some .entry⟩
    else if above then ⟨.highPending, 1, [], none⟩
    else ⟨.normal, 0, [], none⟩
  | .highAlarm =>
    if highRelease p < v then ⟨.highAlarm, p.debounce, [], none⟩
    else if below then
      if p.debounce = 1 then ⟨.lowAlarm, 1, [.watchClear, .watchAlarmLow], some .entry⟩
      else ⟨.lowPending, 1, [.watchClear], some .exit⟩
    else ⟨.normal, 0, [.watchClear], some .exit⟩
  | .lowAlarm =>
    if v < lowRelease p then ⟨.lowAlarm, p.debounce, [], none⟩
    else if above then
      if p.debounce = 1 then ⟨.highAlarm, 1, [.watchClear, .watchAlarmHigh], some .entry⟩
      else ⟨.highPending, 1, [.watchClear], some .exit⟩
    else ⟨.normal, 0, [.watchClear], some .exit⟩

/-! ### Events and reports -/

/-- Cause NORMAL of WATCH_CLEAR (Table 10-8). -/
def clearNormal : BitVec 16 := 0
/-- Cause RECONFIGURED of WATCH_CLEAR (Table 10-8). -/
def clearReconfigured : BitVec 16 := 1

/-- A watch event of subscription i, to its owner and readers as they stand (R106). -/
def watchEvent (i : SubId) (code : EventCode) (detail : BitVec 16) (s : State) : State :=
  raise (s.record i).audience code (idByte i) detail s

/-- The watch events of one evaluation in their order; an alarm event carries the sequence of the record, a
WATCH_CLEAR the cause NORMAL (R106). -/
def watchEvents (i : SubId) (sequence : BitVec 16) (codes : List EventCode) (s : State) : State :=
  codes.foldl (fun s c =>
    watchEvent i c (if c = .watchClear then clearNormal else sequence) s) s

/-- A report for the line of a binding; a watch without a binding makes none (R108). -/
def watchReport (i : SubId) (trip : Option LineNo) (report : Option Report) (s : State) : State :=
  match trip, report with
  | some t, some .entry => entryReport t i s
  | some t, some .exit => exitReport t i s
  | some _, none => s
  | none, _ => s

/-- The EXIT report of a watch that was in an alarm state when it was dropped or reset (R111, R112). -/
def exitIfAlarm (i : SubId) (w : Option Watch) (s : State) : State :=
  match w with
  | none => s
  | some w => if w.state.alarm then watchReport i w.part.trip (some .exit) s else s

/-! ### One record (R109) -/

/-- WTU handles a SUB record of subscription i whole and hands it to DLV (R102, R109). -/
def handleRecord (i : SubId) (r : SampleRecord) (s : State) : State :=
  match s.watch i with
  | none => deliverSub i r s
  | some w =>
    if w.frozen = true ∨ w.generation ≠ r.generation then deliverSub i r s
    else match r.value with
      | none => deliverSub i { r with watch := some w.state } s
      | some v =>
        let m := moveWatch w v.toInt
        let s1 := updateWatch i (some { w with state := m.state, count := m.count }) s
        let s2 := watchEvents i r.sequence m.events s1
        let s3 := watchReport i w.part.trip m.report s2
        deliverSub i { r with watch := some m.state } s3

/-! ### Start, reconfiguration and end (R110 to R112) -/

/-- A watch started with the values of Table 6-1 (R110). -/
def startWatch (gen : BitVec 8) (p : WatchPart) : Watch := { part := p, generation := gen }

/-- WTU's share of the activation of a record (R110). -/
def activateWatch (i : SubId) (part : Option WatchPart) (s : State) : State :=
  updateWatch i (part.map (startWatch 0)) s

/-- WTU's share of a promotion that gives an ACTIVE record new current parameters (R111). DESIGN CHOICE: R111
gives no order between WATCH_CLEAR (RECONFIGURED) and a TRIP_RELEASED that the EXIT report causes; the model raises
WATCH_CLEAR first (log 12). -/
def reconfigureWatch (i : SubId) (old new : Option WatchPart) (gen : BitVec 8) (s : State) : State :=
  if old = new then
    match s.watch i with
    | none => s
    | some w => updateWatch i (some { w with generation := gen }) s
  else
    let w := s.watch i
    let s1 := updateWatch i (new.map (startWatch gen)) s
    match w with
    | none => s1
    | some v =>
      if v.state.alarm then
        exitIfAlarm i w (watchEvent i .watchClear clearReconfigured s1)
      else s1

/-- The watch of a record that becomes CLOSING is frozen, and its id leaves the alarm set (R112). -/
def freezeWatch (i : SubId) (s : State) : State :=
  match s.watch i with
  | none => s
  | some w => updateWatch i (some { w with frozen := true }) s

/-- The watch of a record that becomes FREE is dropped; one in an alarm state reports EXIT (R112). -/
def dropWatch (i : SubId) (s : State) : State :=
  exitIfAlarm i (s.watch i) (updateWatch i none s)

end Sys2Proof.Machine
end

