-- ==== Sys2Proof/Machine/Windows.lean ====
section
/-! DEFINITION. The Accumulation and Scaling Unit (chapter 5): windows and their reports (R81 to R89),
profile activation and discard (R96, R97), SET_PROFILE and READ_PROFILE. -/

namespace Sys2Proof.Machine

/-! ### Windows -/

/-- A window started with the values of Table 5-1 (R81, R82). -/
def startWindow (gen : BitVec 8) (p : Params) : Window :=
  { generation := gen, average := p.average, profile := p.profile }

/-- A window reset after its record is built: generation, average count and profile kept (R88). -/
def Window.restart (w : Window) : Window :=
  { generation := w.generation, average := w.average, profile := w.profile }

/-- How a due frame of a window ended: folded, a conversion marked REF_FAULT, or an entry not begun (R84,
R85, R86). -/
inductive DueEnd where
  | folded (code : BitVec 12)
  | faulted
  | missed
  deriving DecidableEq, Repr

/-- The sums, counts and marks of a window after a due frame; the position is left (R84, R85, R86). -/
def Window.take (w : Window) : DueEnd → Window
  | .folded code => { w with
      folded := w.folded + 1
      sum := w.sum + code.toNat
      railLow := w.railLow || Sys2Proof.Machine.railLow code
      railHigh := w.railHigh || Sys2Proof.Machine.railHigh code }
  | .faulted => { w with misses := w.misses + 1, refFault := true }
  | .missed => { w with misses := w.misses + 1 }

/-- The raw average of a window: the sum divided by n, truncated; absent when n is 0 (R88). -/
def Window.raw (w : Window) : Option Nat := if w.folded = 0 then none else some (w.sum / w.folded)

/-- The SUB record of a window that closes, by the fields of R88; WTU and DLV fill in the rest. -/
def closeRecord (i : SubId) (sequence : BitVec 16) (frame : FrameNo) (w : Window) (p : Profile) :
    SampleRecord :=
  let scaled := w.raw.map fun a => scale a p
  { kind := .sub
    ident := idByte i
    sequence := sequence
    frame := some frame
    value := scaled.map Scaled.value
    raw := w.raw.map (BitVec.ofNat 12)
    folded := w.folded
    generation := w.generation
    flags := subFlags w ((scaled.map Scaled.clipped).getD false) }

/-- SUBT raises a record's sample sequence by 1 (R89). -/
def raiseSequence (i : SubId) (s : State) : State :=
  s.withSubt { s.subt with
    records := put s.subt.records i { s.record i with sequence := (s.record i).sequence + 1 } }

/-- A window closes: the record is built, the window reset, the record handed through WTU to DLV, and the
sequence raised (R88, R89). -/
def closeWindow (i : SubId) (frame : FrameNo) (w : Window) (s : State) : State :=
  let r := closeRecord i (s.record i).sequence frame w (s.profile w.profile)
  raiseSequence i (handleRecord i r (s.setWindow i (some w.restart)))

/-- One id of a report: nothing unless the report belongs to the id's present window (R83); then the due
frame is taken and the window closes or its position advances (R84, R85, R86). -/
def reportDue (e : DueEnd) (frame : FrameNo) (d : Due) (s : State) : State :=
  match s.window d.id with
  | none => s
  | some w =>
    if w.generation ≠ d.generation then s
    else
      let w' := w.take e
      if w.position + 1 = w.average.count then closeWindow d.id frame w' s
      else s.setWindow d.id (some { w' with position := w.position + 1 })

/-- The ids of one report, in the order of the list. -/
def reportAll (e : DueEnd) (frame : FrameNo) (due : List Due) (s : State) : State :=
  due.foldl (fun s d => reportDue e frame d s) s

/-- A member joins a list of due members in ascending id order. -/
def insertDue (d : Due) : List Due → List Due
  | [] => [d]
  | x :: l => if d.id < x.id then d :: x :: l else x :: insertDue d l

/-- Due members in ascending id order (R83). -/
def sortDues (l : List Due) : List Due := l.foldr insertDue []

/-! ### Profiles -/

/-- A profile after its staged value, if any, has become active (R96). -/
def Profile.activate (p : Profile) : Profile :=
  match p.staged with
  | none => p
  | some v => { gain := v.gain, offset := v.offset, staged := none }

/-- Staged profile values become active (R96). -/
def activateProfiles (s : State) : State :=
  s.withAsu { s.asu with profiles := tabulate fun p => (s.profile p).activate }

/-- A profile after the session end of port n (R97). -/
def Profile.forget (n : Port) (p : Profile) : Profile :=
  match p.staged with
  | none => p
  | some v => if v.port = n then { p with staged := none } else p

/-- ASU's share of a session end: staged values of the port are discarded (R97). -/
def profileSessionEnd (n : Port) (s : State) : State :=
  s.withAsu { s.asu with profiles := tabulate fun p => (s.profile p).forget n }

/-- Does the profile hold a staged value of another port (R93)? -/
def stagedByOther (n : Port) (p : Profile) : Bool :=
  match p.staged with
  | none => false
  | some v => v.port != n

/-- SET_PROFILE of port n (R93, R94, R95). -/
def setProfileBlock (n : Port) (index : Byte) (gain : BitVec 16) (offset : BitVec 24) (s : State) :
    Reply × State :=
  match indexOf 8 index with
  | none => (Reply.refuse .badArgument, s)
  | some p =>
    let x := s.profile p
    if p = 0 then (Reply.refuse .badArgument, s)
    else if s.seq.state = .stopped then
      (Reply.ok [index, 0], s.setProfile p { x with gain := gain, offset := offset })
    else if stagedByOther n x then (Reply.refuse .stagedConflict, s)
    else (Reply.ok [index, 1], s.setProfile p { x with staged := some ⟨gain, offset, n⟩ })

/-- Meaning of SET_PROFILE (R93, R94, R95). -/
def execSetProfile (n : Port) (tag index : Byte) (gain : BitVec 16) (offset : BitVec 24) (s : State) :
    Host.Outcome State Fault Refusal :=
  hostCommand n tag (.setProfile n tag index gain offset) (setProfileBlock n index gain offset) s

/-- The payload of READ_PROFILE (Table 10-5). -/
def profilePayload (x : Profile) : List Byte :=
  bytesOf 2 x.gain.toNat ++ bytesOf 3 x.offset.toNat ++
    match x.staged with
    | none => [0] ++ bytesOf 2 0 ++ bytesOf 3 0 ++ [portOptByte none]
    | some v => [1] ++ bytesOf 2 v.gain.toNat ++ bytesOf 3 v.offset.toNat ++ [portOptByte (some v.port)]

/-- READ_PROFILE (R98). -/
def readProfileBlock (index : Byte) (s : State) : Reply × State :=
  match indexOf 8 index with
  | none => (Reply.refuse .badArgument, s)
  | some p => (Reply.ok (profilePayload (s.profile p)), s)

/-- Meaning of READ_PROFILE (R98). -/
def execReadProfile (n : Port) (tag index : Byte) (s : State) : Host.Outcome State Fault Refusal :=
  hostCommand n tag (.readProfile n tag index) (readProfileBlock index) s

end Sys2Proof.Machine
end

