-- ==== Sys2Proof/Machine/Subscriptions.lean ====
section
/-! DEFINITION. The Subscription Table (chapter 1): release and the return to FREE (R12 to R14), promotion
(R20, R21), SUBT's share of a session end (R24 to R26), and the subscription commands. -/

namespace Sys2Proof.Machine

/-! ### Release and the return to FREE (R13, R14) -/

/-- A record becomes FREE (R14): SUB_ENDED is raised, its window, watch and latest table entry are dropped,
its inputs and its reservation let go, and every field takes its value of Table 1-1. -/
def freeRecord (i : SubId) (s : State) : State :=
  let r := s.record i
  let s1 := raise r.audience .subEnded (idByte i) r.sequence s
  let s2 := dropWatch i (s1.setWindow i none)
  updateRecord i {} (s2.setLatest i none)

/-- An ACTIVE record becomes CLOSING (R13): its reservation and its staged change go, its window is dropped
(R82) and its watch frozen (R112). -/
def closeActive (i : SubId) (s : State) : State :=
  let r := s.record i
  freezeWatch i ((updateRecord i { r with state := .closing, staged := none } s).setWindow i none)

/-- A STAGED or ACTIVE record is released (R12, R13). -/
def releaseRecord (i : SubId) (s : State) : State :=
  match (s.record i).state with
  | .free => s
  | .closing => s
  | .staged => freeRecord i s
  | .active => if s.seq.state = .stopped then freeRecord i s else closeActive i s

/-- Every CLOSING record becomes FREE (R14, R23). DESIGN CHOICE: R14, R23 and R34 give no order among several; the
model takes them in ascending id order, each whole before the next (log 12). -/
def freeClosing (s : State) : State :=
  subIds.foldl (fun s i => if (s.record i).state = .closing then freeRecord i s else s) s

/-! ### Promotion (R20, R21) -/

/-- The activation of a STAGED record with its staged change p (R20, R21, R82, R110). -/
def activateRecord (i : SubId) (p : Params) (s : State) : State :=
  let r := s.record i
  let s1 := updateRecord i { r with state := .active, current := some p, staged := none, generation := 0 } s
  activateWatch i p.watch (s1.setWindow i (some (startWindow 0 p)))

/-- The watch part of a parameter set, if there is one. -/
def watchPartOf (p : Option Params) : Option WatchPart :=
  match p with
  | none => none
  | some q => q.watch

/-- An ACTIVE record takes its staged change p (R20, R21, R82, R111). -/
def takeStaged (i : SubId) (p : Params) (s : State) : State :=
  let r := s.record i
  let gen := r.generation + 1
  let s1 := updateRecord i { r with current := some p, staged := none, generation := gen } s
  reconfigureWatch i (watchPartOf r.current) p.watch gen (s1.setWindow i (some (startWindow gen p)))

/-- Promotion of one record (R20). -/
def promoteRecord (i : SubId) (s : State) : State :=
  let r := s.record i
  match r.state, r.staged with
  | .staged, some p => activateRecord i p s
  | .active, some p => takeStaged i p s
  | .closing, _ => freeRecord i s
  | .staged, none => s
  | .active, none => s
  | .free, _ => s

/-- Promotion of all records, in ascending id order, each whole before the next (R20). -/
def promoteAll (s : State) : State := subIds.foldl (fun s i => promoteRecord i s) s

/-! ### Session end (R24 to R26) -/

/-- The ending port is removed from the reader set of every record (R26). -/
def dropReader (n : Port) (s : State) : State :=
  s.withSubt { s.subt with
    records := tabulate fun i => { s.record i with readers := (s.record i).readers.drop n } }

/-- The owner of a record becomes none (R24, R25). -/
def clearOwner (i : SubId) (s : State) : State :=
  s.withSubt { s.subt with records := put s.subt.records i { s.record i with owner := none } }

/-- One owned record at the session end of port n (R24, R25). -/
def recordSessionEnd (n : Port) (i : SubId) (s : State) : State :=
  let r := s.record i
  if r.owner ≠ some n then s
  else
    let s1 := clearOwner i s
    if r.persist then
      match r.state with
      | .staged => raise r.readers .subOrphaned (idByte i) (causeDetail 0 (portByte n)) s1
      | .active => raise r.readers .subOrphaned (idByte i) (causeDetail 0 (portByte n)) s1
      | .closing => s1
      | .free => s1
    else releaseRecord i s1

/-- SUBT's share of a session end: the port leaves every reader set, then the records it owns are treated in
ascending id order (R24, R25, R26). -/
def subSessionEnd (n : Port) (s : State) : State :=
  subIds.foldl (fun s i => recordSessionEnd n i s) (dropReader n s)

/-! ### CREATE (R8, R9) -/

/-- Is the record STAGED or ACTIVE, so that MODIFY, RELEASE, JOIN, LEAVE and ADOPT take it (Table 1-2)? -/
def SubRecord.live (r : SubRecord) : Bool :=
  match r.state with
  | .free => false
  | .staged => true
  | .active => true
  | .closing => false

/-- The lowest FREE id (R9). -/
def lowestFree (s : State) : Option SubId := subIds.find? fun i => (s.record i).state == .free

/-- Is a claim admitted against a plan table (R6)? -/
def admits (s : State) (plan : PlanTable) (p : Params) : Bool :=
  planFits s.seq.slots (addClaim (some p) plan)

/-- The record that an admitted CREATE leaves (R9). -/
def createdRecord (n : Port) (persist deliver : Bool) (p : Params) : SubRecord :=
  { state := .staged
    owner := some n
    readers := if deliver then PortSet.empty.add n else PortSet.empty
    persist := persist
    staged := some p }

/-- CREATE of port n (R8, R9). -/
def createBlock (n : Port) (b : ParamBytes) (options : Byte) (s : State) : Reply × State :=
  match paramsOf b, optionsOf options with
  | some p, some (persist, deliver) =>
    match lowestFree s with
    | none => (Reply.refuse .noEntry, s)
    | some i =>
      if (s.input p.input).mode ≠ .analog then (Reply.refuse .inputMode, s)
      else if admits s s.subt.plan p = false then (Reply.refuse .noCapacity, s)
      else (Reply.ok [idByte i], updateRecord i (createdRecord n persist deliver p) s)
  | _, _ => (Reply.refuse .badArgument, s)

/-- Meaning of CREATE (R8, R9). -/
def execCreate (n : Port) (tag : Byte) (params : ParamBytes) (options : Byte) (s : State) :
    Host.Outcome State Fault Refusal :=
  hostCommand n tag (.create n tag params options) (createBlock n params options) s

/-! ### MODIFY (R10, R11) -/

/-- MODIFY of port n (R10, R11). -/
def modifyBlock (n : Port) (id : Byte) (b : ParamBytes) (s : State) : Reply × State :=
  match indexOf 32 id, paramsOf b with
  | some i, some p =>
    let r := s.record i
    if r.live = false then (Reply.refuse .notFound, s)
    else if r.owner ≠ some n then (Reply.refuse .notOwner, s)
    else if (s.input p.input).mode ≠ .analog then (Reply.refuse .inputMode, s)
    else if admits s (removeClaim r.reserved s.subt.plan) p = false then (Reply.refuse .noCapacity, s)
    else (Reply.ok [], updateRecord i { r with staged := some p } s)
  | _, _ => (Reply.refuse .badArgument, s)

/-- Meaning of MODIFY (R10, R11). -/
def execModify (n : Port) (tag id : Byte) (params : ParamBytes) (s : State) :
    Host.Outcome State Fault Refusal :=
  hostCommand n tag (.modify n tag id params) (modifyBlock n id params) s

/-! ### RELEASE (R12, R13) -/

/-- RELEASE of port n (R12, R13). -/
def releaseBlock (n : Port) (id : Byte) (s : State) : Reply × State :=
  match indexOf 32 id with
  | none => (Reply.refuse .badArgument, s)
  | some i =>
    let r := s.record i
    if r.live = false then (Reply.refuse .notFound, s)
    else if r.owner ≠ some n then (Reply.refuse .notOwner, s)
    else
      let s' := releaseRecord i s
      (Reply.ok [(s'.record i).state.value], s')

/-- Meaning of RELEASE (R12, R13). -/
def execRelease (n : Port) (tag id : Byte) (s : State) : Host.Outcome State Fault Refusal :=
  hostCommand n tag (.release n tag id) (releaseBlock n id) s

/-! ### JOIN, LEAVE and ADOPT (R15, R16, R17) -/

/-- The state with the reader set of a record replaced. -/
def setReaders (i : SubId) (readers : PortSet) (s : State) : State :=
  s.withSubt { s.subt with records := put s.subt.records i { s.record i with readers := readers } }

/-- The state with the owner of a record replaced. -/
def setOwner (i : SubId) (n : Port) (s : State) : State :=
  s.withSubt { s.subt with records := put s.subt.records i { s.record i with owner := some n } }

/-- JOIN of port n (R15). -/
def joinBlock (n : Port) (id : Byte) (s : State) : Reply × State :=
  match indexOf 32 id with
  | none => (Reply.refuse .badArgument, s)
  | some i =>
    let r := s.record i
    if r.live = false then (Reply.refuse .notFound, s)
    else (Reply.ok [], setReaders i (r.readers.add n) s)

/-- Meaning of JOIN (R15). -/
def execJoin (n : Port) (tag id : Byte) (s : State) : Host.Outcome State Fault Refusal :=
  hostCommand n tag (.join n tag id) (joinBlock n id) s

/-- LEAVE of port n (R16). -/
def leaveBlock (n : Port) (id : Byte) (s : State) : Reply × State :=
  match indexOf 32 id with
  | none => (Reply.refuse .badArgument, s)
  | some i =>
    let r := s.record i
    if r.live = false then (Reply.refuse .notFound, s)
    else if r.readers.has n = false then (Reply.refuse .notMember, s)
    else (Reply.ok [], setReaders i (r.readers.drop n) s)

/-- Meaning of LEAVE (R16). -/
def execLeave (n : Port) (tag id : Byte) (s : State) : Host.Outcome State Fault Refusal :=
  hostCommand n tag (.leave n tag id) (leaveBlock n id) s

/-- ADOPT of port n (R17). -/
def adoptBlock (n : Port) (id : Byte) (s : State) : Reply × State :=
  match indexOf 32 id with
  | none => (Reply.refuse .badArgument, s)
  | some i =>
    let r := s.record i
    if r.live = false then (Reply.refuse .notFound, s)
    else if r.owner ≠ none then (Reply.refuse .notOrphan, s)
    else
      let s1 := setOwner i n s
      (Reply.ok [], raise (s1.record i).audience .subAdopted (idByte i) (causeDetail 0 (portByte n)) s1)

/-- Meaning of ADOPT (R17). -/
def execAdopt (n : Port) (tag id : Byte) (s : State) : Host.Outcome State Fault Refusal :=
  hostCommand n tag (.adopt n tag id) (adoptBlock n id) s

/-! ### READ_SUB and READ_PLAN (R18, R19) -/

/-- The payload of READ_SUB (Table 10-5). -/
def recordPayload (r : SubRecord) : List Byte :=
  [r.state.value, portOptByte r.owner, r.readers.value,
    byteOf (r.current.isSome.toNat + 2 * r.staged.isSome.toNat + 4 * r.persist.toNat)]
  ++ paramSetBytes r.current ++ paramSetBytes r.staged ++ bytesOf 2 r.sequence.toNat ++ [r.generation]

/-- READ_SUB (R18). -/
def readSubBlock (id : Byte) (s : State) : Reply × State :=
  match indexOf 32 id with
  | none => (Reply.refuse .badArgument, s)
  | some i => (Reply.ok (recordPayload (s.record i)), s)

/-- Meaning of READ_SUB (R18). -/
def execReadSub (n : Port) (tag id : Byte) (s : State) : Host.Outcome State Fault Refusal :=
  hostCommand n tag (.readSub n tag id) (readSubBlock id) s

/-- The inputs with nonzero demand at a residue, ascending (R19, R40). -/
def plannedInputs (s : State) (r : Residue) : List InputNo :=
  inputNos.filter fun k => decide (0 < s.subt.plan[r][k])

/-- READ_PLAN (R19). -/
def readPlanBlock (residue : Byte) (s : State) : Reply × State :=
  match indexOf 64 residue with
  | none => (Reply.refuse .badArgument, s)
  | some r =>
    let l := plannedInputs s r
    (Reply.ok ([byteOf s.seq.slots, byteOf l.length]
      ++ l.flatMap fun k => [byteOf k.val, byteOf s.subt.plan[r][k]]), s)

/-- Meaning of READ_PLAN (R19). -/
def execReadPlan (n : Port) (tag residue : Byte) (s : State) : Host.Outcome State Fault Refusal :=
  hostCommand n tag (.readPlan n tag residue) (readPlanBlock residue) s

end Sys2Proof.Machine
end

