-- ==== Sys2Proof/Machine/Inputs.lean ====
section
/-! DEFINITION. The Input Selector and the Converter (chapter 3): the reference check (R58), power-up and
power-down (R60, R61), the beginning of a conversion (R62), CONFIG_INPUT and READ_INPUTS. -/

namespace Sys2Proof.Machine

/-! ### REFIN and the reference check (R58) -/

/-- The level at the REFIN pin is now `refin` (log 8). -/
def setRefin (refin : RefLevel) (s : State) : State := s.withIsel { s.isel with refin := refin }

/-- The reference check at the start of a conversion of input k: the flag follows REFIN, and REF_FAULT or
REF_RECOVERED is raised when it changes (R58). -/
def checkReference (k : InputNo) (s : State) : State :=
  let good := refInWindow s.isel.refin
  let detail := causeDetail 0 (byteOf k.val)
  match s.isel.refOk, good with
  | .ok, true => s
  | .fault, true => raise PortSet.all .refRecovered 0 detail (s.withIsel { s.isel with refOk := .ok })
  | .ok, false => raise PortSet.all .refFault 0 detail (s.withIsel { s.isel with refOk := .fault })
  | .fault, false => s

/-! ### Power (R60, R61) -/

/-- A power-up request: OFF enters WARMING with the warm-up timer running; in every other state it has no
effect (R60). -/
def powerUp (s : State) : State :=
  if s.conv.power = .off then
    s.withConv { s.conv with power := .warming, warmUp := some Config.warmUpTime }
  else s

/-- CONV judges the power-down condition: a READY converter enters OFF when the sequencer is STOPPED, the
spot queue is empty and no conversion is in progress (R61). -/
def judgePower (s : State) : State :=
  if s.conv.power = .ready ∧ s.seq.state = .stopped ∧ s.seq.spots = [] ∧ s.conv.conversion = none then
    s.withConv { s.conv with power := .off }
  else s

/-! ### The beginning of a conversion (R62) -/

/-- A conversion of input k begins, credited to `frame` (none for standalone service) with this due set:
the input is routed, the reference is checked, and CONV enters BUSY with the slot time of the divider in
force (R62). -/
def beginConversion (k : InputNo) (frame : Option FrameNo) (due : List Due) (s : State) : State :=
  let s1 := checkReference k (s.withIsel { s.isel with routed := some k })
  s1.withConv { s1.conv with
    power := .busy
    conversion := some {
      input := k
      refFault := !refInWindow s.isel.refin
      slotTime := s.seq.divider.value
      frame := frame
      due := due } }

/-! ### CONFIG_INPUT (R54, R55) -/

/-- Is a conversion of input k in progress (R54)? -/
def converting (s : State) (k : InputNo) : Bool :=
  match s.conv.conversion with
  | none => false
  | some c => c.input == k

/-- Is the trip line of input k not DISARMED? False for AIN0 to AIN11 (R54). -/
def lineHolds (s : State) (k : InputNo) : Bool :=
  match inputLine k with
  | none => false
  | some t => (s.line t).state != .disarmed

/-- Is the line of input k TRIPPED? -/
def lineTripped (s : State) (k : InputNo) : Bool :=
  match inputLine k with
  | none => false
  | some t => (s.line t).state == .tripped

/-- The polarity that CONFIG_INPUT leaves: the requested one for AIN12 to AIN15, ACTIVE_HIGH for the others
(R55). -/
def polarityFor (k : InputNo) (pol : Polarity) : Polarity :=
  if (inputLine k).isSome then pol else .activeHigh

/-- CONFIG_INPUT (R54, R55). -/
def configInputBlock (input mode polarity : Byte) (s : State) : Reply × State :=
  match indexOf 16 input, modeOf mode, polarityOf polarity with
  | some k, some m, some p =>
    let x := s.input k
    if m = .trip ∧ (inputLine k).isNone then (Reply.refuse .badArgument, s)
    else if x.useCount ≠ 0 ∨ converting s k = true then (Reply.refuse .inUse, s)
    else if x.mode = .trip ∧ (m ≠ x.mode ∨ p ≠ x.polarity) ∧ lineHolds s k = true then
      (Reply.refuse .tripState, s)
    else
      let pol := polarityFor k p
      (Reply.ok [input, mode, pol.value],
        s.setInput k { x with mode := m, polarity := pol, drive := driveFor m pol (lineTripped s k) })
  | _, _, _ => (Reply.refuse .badArgument, s)

/-- Meaning of CONFIG_INPUT (R54, R55). -/
def execConfigInput (n : Port) (tag input mode polarity : Byte) (s : State) :
    Host.Outcome State Fault Refusal :=
  hostCommand n tag (.configInput n tag input mode polarity) (configInputBlock input mode polarity) s

/-! ### READ_INPUTS (R57) -/

/-- The payload of READ_INPUTS (Table 10-5). -/
def inputsPayload (s : State) : List Byte :=
  (inputNos.flatMap fun k =>
    [(s.input k).mode.value, (s.input k).polarity.value, byteOf (s.input k).useCount])
  ++ [s.isel.refOk.value, s.conv.power.value]

/-- READ_INPUTS (R57). -/
def readInputsBlock (s : State) : Reply × State := (Reply.ok (inputsPayload s), s)

/-- Meaning of READ_INPUTS (R57). -/
def execReadInputs (n : Port) (tag : Byte) (s : State) : Host.Outcome State Fault Refusal :=
  hostCommand n tag (.readInputs n tag) readInputsBlock s

end Sys2Proof.Machine
end

