-- ==== Sys2Proof/Machine/Spots.lean ====
section
/-! DEFINITION. The spot queue (chapter 4): expiry and assignment at a boundary (R69, R70), the return of
entries of a cut frame (R71), completion (R72), standalone service (R73, R74), SPOT and CANCEL_SPOT, and the
removal at a session end (R78). -/

namespace Sys2Proof.Machine

/-- The state with the spot queue replaced. -/
def setSpots (l : List SpotEntry) (s : State) : State := s.withSeq { s.seq with spots := l }

/-- Is the entry WAITING? -/
def SpotEntry.waiting (e : SpotEntry) : Bool := e.place == .waiting

/-- Has the conversion of a list entry not begun in the current frame (R37)? -/
def ListEntry.unbegun (slot : Nat) (x : ListEntry) : Bool := decide (slot < x.slot)

/-! ### Expiry (R69) -/

/-- A WAITING entry that has been considered is counted down (R69). -/
def countDown (e : SpotEntry) : SpotEntry :=
  if e.waiting && e.considered then { e with remaining := e.remaining - 1 } else e

/-- Does an entry that has been counted down expire (R69)? -/
def expires (e : SpotEntry) : Bool := e.waiting && e.considered && decide (e.remaining = 0)

/-- When expiry is done, an entry still WAITING has been considered (R69). -/
def consider (e : SpotEntry) : SpotEntry := if e.waiting then { e with considered := true } else e

/-- One entry expires: the use count of its input falls and SPOT_EXPIRED is raised to its port (R69). -/
def expireEntry (e : SpotEntry) (s : State) : State :=
  raise (PortSet.empty.add e.port) .spotExpired e.tag (causeDetail 0 (byteOf e.input.val))
    (useDown e.input s)

/-- The expiry step of a boundary, in queue order (R69). -/
def expireSpots (s : State) : State :=
  let counted := s.seq.spots.map countDown
  let s1 := setSpots ((counted.filter fun e => !expires e).map consider) s
  (counted.filter expires).foldl (fun s e => expireEntry e s) s1

/-! ### Assignment (R70) -/

/-- The assignment of a boundary: from head to tail, a WAITING entry shares the list entry of its input, else
takes the next free slot with a new SPARE entry, else stays WAITING (R70). Planned entries stand in the list
from the start, so sharing with them costs no slot. -/
def assignSpots (slots : Nat) : List ListEntry → List SpotEntry → List ListEntry × List SpotEntry
  | list, [] => (list, [])
  | list, e :: rest =>
    if e.waiting then
      match list.find? fun x => x.input == e.input with
      | some x =>
        let (l, q) := assignSpots slots list rest
        (l, { e with place := .listed x.slot } :: q)
      | none =>
        if list.length < slots then
          let x : ListEntry := ⟨list.length + 1, e.input, .spare, []⟩
          let (l, q) := assignSpots slots (list ++ [x]) rest
          (l, { e with place := .listed x.slot } :: q)
        else
          let (l, q) := assignSpots slots list rest
          (l, e :: q)
    else
      let (l, q) := assignSpots slots list rest
      (l, e :: q)

/-! ### Return of unbegun entries (R71) -/

/-- An entry assigned to a list entry that has not begun returns to WAITING in its place (R42, R71). -/
def returnEntry (e : SpotEntry) : SpotEntry :=
  match e.place with
  | .listed _ => { e with place := .waiting }
  | .waiting => e
  | .inFlight => e

/-- Every entry assigned to a list entry not begun returns to WAITING (R42, R71). -/
def returnSpots (s : State) : State := setSpots (s.seq.spots.map returnEntry) s

/-! ### Completion (R72) -/

/-- The spot record of an entry served by a conversion (R72, Table 4-2). -/
def spotRecord (e : SpotEntry) (code : BitVec 12) (c : Conversion) (s : State) : SampleRecord :=
  let scaled := e.profile.map fun p => scale code.toNat (s.profile p)
  { kind := .spot
    ident := e.tag
    frame := c.frame
    value := scaled.map Scaled.value
    raw := some code
    folded := 1
    flags := spotFlags code c.refFault ((scaled.map Scaled.clipped).getD false) }

/-- One entry completes: its record is handed to DLV for its port and the use count of its input falls
(R72). -/
def completeEntry (code : BitVec 12) (c : Conversion) (e : SpotEntry) (s : State) : State :=
  useDown e.input (placeSample (spotRecord e code c s) e.port s)

/-- The spot entries served by a completed conversion complete, in queue order, and leave the queue (R72). -/
def completeSpots (code : BitVec 12) (c : Conversion) (s : State) : State :=
  let served := s.seq.spots.filter fun e => e.place == .inFlight
  let s1 := setSpots (s.seq.spots.filter fun e => e.place != .inFlight) s
  served.foldl (fun s e => completeEntry code c e s) s1

/-! ### Standalone service (R73, R74) -/

/-- The head entry and the entries behind it that name the same input, up to the first that names another,
become ASSIGNED to the standalone conversion (R74). -/
def assignStandalone (k : InputNo) : List SpotEntry → List SpotEntry
  | [] => []
  | e :: rest =>
    if e.input = k then { e with place := .inFlight } :: assignStandalone k rest else e :: rest

/-- The spot queue checks the conditions of R73 and begins a standalone conversion if they all hold (R73,
R74). -/
def startStandalone (s : State) : State :=
  if s.seq.state = .stopped ∧ s.conv.power = .ready ∧ s.conv.conversion = none ∧
      s.seq.spots.any SpotEntry.waiting = true then
    match s.seq.spots with
    | [] => s
    | e :: _ => beginConversion e.input none [] (setSpots (assignStandalone e.input s.seq.spots) s)
  else s

/-! ### Removal (R76, R78) -/

/-- A SPARE list entry that has not begun and is left with no spot entry is taken out of the list; the others
keep their slots (R76, R78). -/
def pruneList (slot : Nat) (spots : List SpotEntry) (list : List ListEntry) : List ListEntry :=
  list.filter fun x =>
    x.origin == .planned || !x.unbegun slot || spots.any fun e => e.place == .listed x.slot

/-- Entries are removed from the queue: the use count of each one's input falls, SPARE list entries left
without spot entries go, and while the sequencer is STOPPED the converter judges its power-down condition
(R76, R78, R61). -/
def removeSpots (gone : SpotEntry → Bool) (s : State) : State :=
  let kept := s.seq.spots.filter fun e => !gone e
  let s1 := s.withSeq { s.seq with
    spots := kept, list := pruneList s.seq.slot kept s.seq.list }
  judgePower ((s.seq.spots.filter gone).foldl (fun s e => useDown e.input s) s1)

/-- The spot queue's part of SEQ's share of a session end (R78). -/
def spotSessionEnd (n : Port) (s : State) : State := removeSpots (fun e => e.port == n) s

/-! ### SPOT (R67, R68) -/

/-- Is this the entry of port n with this tag? -/
def SpotEntry.isOf (n : Port) (tag : Byte) (e : SpotEntry) : Bool := e.port == n && e.tag == tag

/-- A SPOT is accepted: the entry stands at the tail, the use count rises, and while the sequencer is STOPPED
the converter is powered up or standalone service begins (R68). -/
def acceptSpot (e : SpotEntry) (s : State) : State :=
  let s1 := useUp e.input (setSpots (s.seq.spots ++ [e]) s)
  if s.seq.state = .stopped then startStandalone (powerUp s1) else s1

/-- SPOT of port n (R67, R68). -/
def spotBlock (n : Port) (input tag profile timeout : Byte) (s : State) : Reply × State :=
  match indexOf 16 input, spotProfileOf profile, rangeOf 1 255 timeout with
  | some k, some p, some t =>
    let q := s.seq.spots
    if q.any (SpotEntry.isOf n tag) = true then (Reply.refuse .duplicate, s)
    else if Config.spotQueueSize ≤ q.length then (Reply.refuse .queueFull, s)
    else if Config.spotPerPort ≤ (q.filter fun e => e.port == n).length then (Reply.refuse .portLimit, s)
    else if (s.input k).mode ≠ .analog then (Reply.refuse .inputMode, s)
    else (Reply.ok [tag, byteOf (q.length + 1)], acceptSpot ⟨n, tag, k, p, t, false, .waiting⟩ s)
  | _, _, _ => (Reply.refuse .badArgument, s)

/-- Meaning of SPOT (R67, R68). -/
def execSpot (n : Port) (tag input spotTag profile timeout : Byte) (s : State) :
    Host.Outcome State Fault Refusal :=
  hostCommand n tag (.spot n tag input spotTag profile timeout) (spotBlock n input spotTag profile timeout) s

/-! ### CANCEL_SPOT (R76) -/

/-- CANCEL_SPOT of port n (R76). -/
def cancelSpotBlock (n : Port) (tag : Byte) (s : State) : Reply × State :=
  match s.seq.spots.find? (SpotEntry.isOf n tag) with
  | none => (Reply.refuse .notFound, s)
  | some e =>
    if e.place = .inFlight then (Reply.refuse .inFlight, s)
    else (Reply.ok [], removeSpots (SpotEntry.isOf n tag) s)

/-- Meaning of CANCEL_SPOT (R76). -/
def execCancelSpot (n : Port) (tag spotTag : Byte) (s : State) : Host.Outcome State Fault Refusal :=
  hostCommand n tag (.cancelSpot n tag spotTag) (cancelSpotBlock n spotTag) s

end Sys2Proof.Machine
end

