-- ==== Sys2Proof/Machine/Sequencer.lean ====
section
/-! DEFINITION. The Sequencer (chapter 2): the conversion list (R40), frame boundaries (R36 to R39, R87), the
end of a frame and early edges (R42, R43), the entry to STOPPED (R34), starting (R31, R32), run votes (R28 to
R30, R35), sync (R45, R46), CONFIG_TIMING (R48), the slots (R37), and the completion of a conversion (R41,
R64). -/

namespace Sys2Proof.Machine

/-! ### The conversion list (R40) -/

/-- The residue of a frame: FN modulo 64 (R36). -/
def residueOf (fn : FrameNo) : Residue := ⟨fn.toNat % 64, Nat.mod_lt _ (by decide)⟩

/-- Is the record ACTIVE with current parameters that name input k and are due at this residue (R40)? -/
def dueAt (k : InputNo) (r : Residue) (x : SubRecord) : Bool :=
  x.state == .active &&
    match x.current with
    | none => false
    | some p => p.input == k && p.covers r

/-- The due set of input k at a residue, with the due generations (R40, section 5.2). -/
def dueSet (s : State) (r : Residue) (k : InputNo) : List Due :=
  (subIds.filter fun i => dueAt k r (s.record i)).map fun i => ⟨i, (s.record i).generation⟩

/-- Planned entries numbered from a slot. -/
def plannedFrom (s : State) (r : Residue) : Nat → List InputNo → List ListEntry
  | _, [] => []
  | slot, k :: rest => ⟨slot, k, .planned, dueSet s r k⟩ :: plannedFrom s r (slot + 1) rest

/-- The planned entries of the current frame, in ascending input order from slot 1 (R40). -/
def plannedList (s : State) : List ListEntry :=
  let r := residueOf s.seq.fn
  plannedFrom s r 1 (plannedInputs s r)

/-- SEQ builds the conversion list of the new frame: planned entries, expiry, assignment (R40, R69, R70). -/
def buildList (s : State) : State :=
  let planned := plannedList s
  let s1 := expireSpots s
  let built := assignSpots s1.seq.slots planned s1.seq.spots
  s1.withSeq { s1.seq with list := built.1, spots := built.2 }

/-! ### Timers -/

/-- The slot times with which the sync timer starts (R39, Table 2-1). -/
def syncLoad (q : Seq) : Nat := Config.syncUnit * q.syncTimeout

/-- The timers at a boundary: under LOCKED timing the sync timer restarts and the frame timer is stopped
(R39); otherwise the frame timer starts with S + 1 slot times and the sync timer is stopped (R38, R45). -/
def startFrameTimers (q : Seq) : Seq :=
  if q.sync = .locked then { q with frameTimer := none, syncTimer := some (syncLoad q) }
  else { q with frameTimer := some (q.slots + 1), syncTimer := none }

/-! ### The boundary (R36, R87) -/

/-- A new frame begins: FN advances, staged profile values become active, SUBT promotes with ASU and WTU
following, SEQ builds the list and the timers start (R20, R36, R38, R40, R87). -/
def beginFrame (s : State) : State :=
  let s1 := s.withSeq { s.seq with fn := s.seq.fn + 1, cut := false, slot := 0 }
  let s2 := promoteAll (activateProfiles s1)
  let s3 := buildList s2
  s3.withSeq (startFrameTimers s3.seq)

/-- The first boundary: the sequencer enters RUNNING, the frame is begun and SEQ_STARTED raised (R31). -/
def firstBoundary (s : State) : State :=
  let s1 := beginFrame (s.withSeq { s.seq with state := .running })
  match s1.seq.starter with
  | none => s1
  | some v =>
    raise PortSet.all .seqStarted (portByte v) (causeDetail 0 (byteOf s1.seq.slots)) s1

/-- In STARTING, once the conditions of R31 hold: the first boundary under INTERNAL timing, the start of the
sync timer under EXTERNAL timing (R31, R32). -/
def tryStart (s : State) : State :=
  if s.seq.state = .starting ∧ s.conv.power = .ready ∧ s.conv.conversion = none then
    match s.seq.source with
    | .internal => firstBoundary s
    | .external => s.withSeq { s.seq with syncTimer := some (syncLoad s.seq) }
  else s

/-! ### The end of a frame (R42, R43) -/

/-- The entries of the current list that have not begun. -/
def unbegunEntries (s : State) : List ListEntry := s.seq.list.filter (ListEntry.unbegun s.seq.slot)

/-- Are there entries of the current list that have not begun, so that an edge is early (R43)? -/
def edgeIsEarly (s : State) : Bool := !(unbegunEntries s).isEmpty

/-- The planned entries of the current list that have not begun. -/
def missedEntries (s : State) : List ListEntry :=
  (unbegunEntries s).filter fun x => x.origin == .planned

/-- The frame-end report of a cut frame: every planned entry not begun is missed for its due set, ids in
ascending order (R42, R83, R86). -/
def reportMissed (s : State) : State :=
  reportAll .missed s.seq.fn (sortDues ((missedEntries s).flatMap ListEntry.due)) s

/-- An early edge cuts the frame: the cut flag is set, the planned entries not begun are missed, their spot
entries and those of the spare ones return to WAITING, and the event is raised with the number of planned
entries missed (R43, R46, R71). -/
def cutFrame (code : EventCode) (s : State) : State :=
  let missed := (missedEntries s).length
  let s1 := s.withSeq { s.seq with cut := true }
  raise PortSet.all code 0 (causeDetail 0 (byteOf missed)) (returnSpots (reportMissed s1))

/-- A frame ends in the ordinary way: the report carries no missed entry, and no spot entry stays assigned to
an entry not begun (R42, log 16). -/
def endFrame (s : State) : State := returnSpots s

/-! ### The entry to STOPPED (R34) -/

/-- The sync state without frames: WAITING with an EXTERNAL source, OFF with an INTERNAL one (R34, R48). -/
def restSync : SyncSource → SyncState
  | .internal => .off
  | .external => .waiting

/-- The sequencer enters STOPPED (R34): timers stopped, list emptied, starting voter absent; CLOSING records
freed (R23); staged profile values active (R96); standalone service (R73); the power-down condition (R61). -/
def enterStopped (s : State) : State :=
  let s1 := s.withSeq { s.seq with
    state := .stopped, frameTimer := none, syncTimer := none, list := [], starter := none,
    sync := restSync s.seq.source }
  judgePower (startStandalone (activateProfiles (freeClosing s1)))

/-- The value of a halt cause in the detail of SEQ_STOPPED (Table 10-8). -/
def HaltKind.value : HaltKind → BitVec 16
  | .stop => 0
  | .sessionEnd => 1

/-- The end of the last frame of HALTING: STOPPED is entered, SEQ_STOPPED raised, the halt cause cleared
(R33). -/
def finishHalt (s : State) : State :=
  let s1 := enterStopped s
  let s2 := match s1.seq.haltCause with
    | none => s1
    | some c => raise PortSet.all .seqStopped (portByte c.port) c.kind.value s1
  s2.withSeq { s2.seq with haltCause := none }

/-- After a frame has ended: the next frame begins in RUNNING; in HALTING the sequencer stops (R33, R38,
R39). -/
def nextFrame (s : State) : State :=
  match s.seq.state with
  | .running => beginFrame s
  | .halting => finishHalt s
  | .stopped => s
  | .starting => s

/-! ### Run votes (R28 to R30, R35) -/

/-- The run-vote set has become empty, by the last STOP or session end of port n (R28, R30, R35). -/
def votesEmptied (n : Port) (kind : HaltKind) (s : State) : State :=
  match s.seq.state with
  | .starting => enterStopped s
  | .running => s.withSeq { s.seq with state := .halting, haltCause := some ⟨n, kind⟩ }
  | .stopped => s
  | .halting => s

/-- Port n leaves the run-vote set (R30, R35). -/
def dropVote (n : Port) (kind : HaltKind) (s : State) : State :=
  let votes := s.seq.votes.drop n
  let s1 := s.withSeq { s.seq with votes := votes }
  if votes.isEmpty then votesEmptied n kind s1 else s1

/-- RUN of port n (R29). -/
def runBlock (n : Port) (s : State) : Reply × State :=
  let s1 := s.withSeq { s.seq with votes := s.seq.votes.add n }
  let s' := match s.seq.state with
    | .stopped =>
      tryStart (powerUp (s1.withSeq { s1.seq with
        state := .starting, starter := some n, haltCause := none, sync := restSync s.seq.source }))
    | .starting => s1
    | .running => s1
    | .halting => s1.withSeq { s1.seq with state := .running, haltCause := none }
  (Reply.ok [s'.seq.state.value], s')

/-- Meaning of RUN (R29). -/
def execRun (n : Port) (tag : Byte) (s : State) : Host.Outcome State Fault Refusal :=
  hostCommand n tag (.run n tag) (runBlock n) s

/-- STOP of port n (R30). -/
def stopBlock (n : Port) (s : State) : Reply × State :=
  if s.seq.votes.has n = false then (Reply.refuse .notVoter, s)
  else
    let s' := dropVote n .stop s
    (Reply.ok [s'.seq.state.value], s')

/-- Meaning of STOP (R30). -/
def execStop (n : Port) (tag : Byte) (s : State) : Host.Outcome State Fault Refusal :=
  hostCommand n tag (.stop n tag) (stopBlock n) s

/-- SEQ's share of a session end: the vote, then the spot entries (R35, R78, R165). -/
def seqSessionEnd (n : Port) (s : State) : State :=
  let s1 := if s.seq.votes.has n then dropVote n .sessionEnd s else s
  spotSessionEnd n s1

/-! ### CONFIG_TIMING (R48, R49) -/

/-- CONFIG_TIMING (R48). -/
def configTimingBlock (slots divider source timeout : Byte) (s : State) : Reply × State :=
  match rangeOf 1 16 slots, dividerOf divider, sourceOf source, rangeOf 1 255 timeout with
  | some sl, some d, some src, some t =>
    if s.seq.state ≠ .stopped then (Reply.refuse .busyState, s)
    else if planFits sl s.subt.plan = false then (Reply.refuse .noCapacity, s)
    else (Reply.ok [], s.withSeq { s.seq with
      slots := sl, divider := d, source := src, syncTimeout := t, sync := restSync src })
  | _, _, _, _ => (Reply.refuse .badArgument, s)

/-- Meaning of CONFIG_TIMING (R48). -/
def execConfigTiming (n : Port) (tag slots divider source timeout : Byte) (s : State) :
    Host.Outcome State Fault Refusal :=
  hostCommand n tag (.configTiming n tag slots divider source timeout)
    (configTimingBlock slots divider source timeout) s

/-! ### Frame timer, SYNC edges and sync timer (R38, R39, R45, R46) -/

/-- The frame timer expires (R33, R38). A timer that is stopped does not expire (log 4). -/
def frameExpiry (s : State) : State :=
  match s.seq.frameTimer with
  | none => s
  | some _ =>
    match s.seq.state with
    | .running => nextFrame (endFrame s)
    | .halting => nextFrame (endFrame s)
    | .stopped => s
    | .starting => s

/-- Meaning of FRAME_TIMER_EXPIRY (R38). -/
def execFrameTimerExpiry (s : State) : Host.Outcome State Fault Refusal := unlessReset frameExpiry s

/-- The frame that an edge ends: cut when the edge is early, else ended in the ordinary way (R43). -/
def edgeEnd (s : State) : State := if edgeIsEarly s then cutFrame .syncEarly s else endFrame s

/-- The frame that a regaining edge ends: SYNC_REGAINED takes the place of SYNC_EARLY (R46). -/
def regainEnd (s : State) : State :=
  if edgeIsEarly s then cutFrame .syncRegained s
  else raise PortSet.all .syncRegained 0 0 (endFrame s)

/-- A SYNC edge while frames run (R39, R46). -/
def edgeInFrame (s : State) : State :=
  match s.seq.sync with
  | .locked => nextFrame (edgeEnd s)
  | .fallback =>
    nextFrame (regainEnd (s.withSeq { s.seq with
      sync := .locked, frameTimer := none, syncTimer := some (syncLoad s.seq) }))
  | .off => s
  | .waiting => s

/-- A SYNC edge in STARTING: the first boundary when both conditions of R32 hold, else ignored (R32). -/
def edgeInStarting (s : State) : State :=
  if s.seq.sync = .waiting ∧ s.conv.power = .ready ∧ s.conv.conversion = none then
    firstBoundary (s.withSeq { s.seq with sync := .locked })
  else s

/-- A SYNC rising edge (R32, R34, R39, R46). With an INTERNAL source the pin is not used. -/
def takeEdge (s : State) : State :=
  match s.seq.source with
  | .internal => s
  | .external =>
    match s.seq.state with
    | .stopped => s
    | .starting => edgeInStarting s
    | .running => edgeInFrame s
    | .halting => edgeInFrame s

/-- Meaning of SYNC_EDGE (R39). -/
def execSyncEdge (s : State) : Host.Outcome State Fault Refusal := unlessReset takeEdge s

/-- Sync is lost: FALLBACK, the sync timer stopped, SYNC_LOST raised (R45). -/
def loseSync (s : State) : State :=
  raise PortSet.all .syncLost 0 0 (s.withSeq { s.seq with sync := .fallback, syncTimer := none })

/-- The sync timer expires (R45). A timer that is stopped does not expire (log 4). -/
def syncExpiry (s : State) : State :=
  match s.seq.syncTimer with
  | none => s
  | some _ =>
    match s.seq.state with
    | .stopped => s
    | .starting => firstBoundary (loseSync s)
    | .running => nextFrame (endFrame (loseSync s))
    | .halting => nextFrame (endFrame (loseSync s))

/-- Meaning of SYNC_TIMER_EXPIRY (R45). -/
def execSyncTimerExpiry (s : State) : Host.Outcome State Fault Refusal := unlessReset syncExpiry s

/-! ### Warm-up (R60) -/

/-- CONV reports READY or a completion: SEQ may take the first boundary, the spot queue may begin standalone
service, and the power-down condition is judged (R31, R32, R60, R61, R73). -/
def converterFree (s : State) : State := judgePower (startStandalone (tryStart s))

/-- The warm-up timer expires (R60). Outside WARMING there is no timer to expire (log 4). -/
def warmUpEnd (refin : RefLevel) (s : State) : State :=
  let s0 := setRefin refin s
  if s.conv.power = .warming then
    converterFree (s0.withConv { s0.conv with power := .ready, warmUp := none })
  else s0

/-- Meaning of WARM_UP_EXPIRY (R60). -/
def execWarmUpExpiry (refin : RefLevel) (s : State) : Host.Outcome State Fault Refusal :=
  unlessReset (warmUpEnd refin) s

/-! ### Slots (R37, R41) -/

/-- Spot entries assigned to a list entry are in flight once its conversion begins (R66). -/
def launchSpots (slot : Nat) (l : List SpotEntry) : List SpotEntry :=
  l.map fun e => if e.place = .listed slot then { e with place := .inFlight } else e

/-- The next slot begins, with no list entry in it: it passes without conversion (R37). -/
def passSlot (s : State) : State := s.withSeq { s.seq with slot := s.seq.slot + 1 }

/-- The next slot begins and the conversion of its list entry is begun, credited to the current frame (R37,
R41). -/
def beginSlot (x : ListEntry) (s : State) : State :=
  let s1 := s.withSeq { s.seq with
    slot := s.seq.slot + 1, spots := launchSpots x.slot s.seq.spots }
  beginConversion x.input (some s.seq.fn) x.due s1

/-- The list entry of the next slot, if it has one. -/
def nextEntry (s : State) : Option ListEntry := s.seq.list.find? fun x => x.slot == s.seq.slot + 1

/-- Do frames run, so that slots begin (R37)? -/
def inFrame (s : State) : Bool := s.seq.state == .running || s.seq.state == .halting

/-- The next slot of the frame begins (R37). No slot begins outside a frame, after slot S, or before the
conversion in progress has completed (log 4). -/
def slotBegin (refin : RefLevel) (s : State) : State :=
  let s0 := setRefin refin s
  if inFrame s = false ∨ s.seq.slots ≤ s.seq.slot ∨ s.conv.conversion ≠ none then s0
  else match nextEntry s with
    | none => passSlot s0
    | some x => if s.conv.power = .ready then beginSlot x s0 else s0

/-- Meaning of SLOT_START (R37). -/
def execSlotStart (refin : RefLevel) (s : State) : Host.Outcome State Fault Refusal :=
  unlessReset (slotBegin refin) s

/-! ### Completion (R41, R64) -/

/-- How a completed conversion ends the due frame of each window (R84, R85). -/
def dueEndOf (c : Conversion) (code : BitVec 12) : DueEnd := if c.refFault then .faulted else .folded code

/-- SEQ passes a completed conversion to ASU with its due set, unless it was standalone (R41). -/
def passToAsu (c : Conversion) (code : BitVec 12) (s : State) : State :=
  match c.frame with
  | none => s
  | some fn => reportAll (dueEndOf c code) fn (sortDues c.due) s

/-- CONV gives up the conversion and enters READY, and ISEL releases the routing (R64). -/
def releaseConverter (s : State) : State :=
  (s.withConv { s.conv with power := .ready, conversion := none }).withIsel { s.isel with routed := none }

/-- The state after the free value of a conversion has been used, if it was (log 9). -/
def countFree (vin : Level) (vref : RefLevel) (s : State) : State :=
  if needsFree vin vref then s.useFree else s

/-- The conversion in progress completes (R64). When none is in progress nothing completes (log 4). -/
def completeConversion (vin : Level) (vref : RefLevel) (s : State) : State :=
  let s0 := setRefin vref s
  match s.conv.conversion with
  | none => s0
  | some c =>
    let code := convertCode (Config.codeAtZeroReference s.freeCount) vin vref
    let s1 := releaseConverter (countFree vin vref s0)
    converterFree (completeSpots code c (passToAsu c code s1))

/-- Meaning of CONVERSION_COMPLETE (R64). -/
def execConversionComplete (vin : Level) (vref : RefLevel) (s : State) :
    Host.Outcome State Fault Refusal :=
  unlessReset (completeConversion vin vref) s

end Sys2Proof.Machine
end

