-- ==== Sys2Proof/Machine/Sessions.lean ====
section
/-! DEFINITION. The Host Port Controllers (chapter 9): the session end (R165, R166), FETCH, ATTACH, DETACH,
SET_PORT, READ_STATUS, the transactions (R150, R151, R153, R155) and the session timer (R163). -/

namespace Sys2Proof.Machine

/-! ### Session end (R165, R166) -/

/-- Causes of a session end (section 9.7). -/
inductive EndCause where
  | request
  | timeout
  | reattach
  deriving DecidableEq, Repr

/-- The detail of PORT_DETACHED (Table 10-8). -/
def EndCause.value : EndCause → BitVec 16
  | .request => 0
  | .timeout => 1
  | .reattach => 2

/-- The beginning of a session end: DETACHED, session timer stopped (R165). -/
def detachPort (n : Port) (s : State) : State :=
  s.setPort n { s.port n with session := .detached, timer := none }

/-- DLV's share: queues emptied, counts reset, ATTNn inactive (R146). -/
def queueSessionEnd (n : Port) (s : State) : State := s.setQueues n {}

/-- The port controller's share: holder EMPTY, overrun flag clear, label and timeout 0, PORT_DETACHED to all
attached ports (R166). -/
def controllerSessionEnd (n : Port) (cause : EndCause) (s : State) : State :=
  raise PortSet.all .portDetached (portByte n) cause.value
    (s.setPort n { s.port n with
      holder := .empty, overrun := false, inExec := none, label := 0, timeout := 0 })

/-- A session end, whole, its shares in the order of R165. -/
def sessionEnd (n : Port) (cause : EndCause) (s : State) : State :=
  controllerSessionEnd n cause
    (queueSessionEnd n
      (tripSessionEnd n
        (profileSessionEnd n
          (seqSessionEnd n
            (subSessionEnd n
              (detachPort n s))))))

/-! ### FETCH (R156) -/

/-- A well-formed FETCH: the session timer of an ATTACHED port restarts (R163) and nothing else changes
(R156). -/
def takeFetch (n : Port) (s : State) : State := restartTimer n s

/-- Meaning of FETCH (R156). -/
def execFetch (n : Port) (_tag : Byte) (s : State) : Host.Outcome State Fault Refusal :=
  unlessReset (takeFetch n) s

/-! ### ATTACH (R160, R161) -/

/-- A session begins (R160): label and timeout stored, port settings at their defaults, the session timer
started, and ATTNn judged. The reset cause has been reported (R161). -/
def openSession (n : Port) (label : BitVec 32) (timeout : Byte) (s : State) : State :=
  judgeAttn n (s.setPort n { s.port n with
    session := .attached, label := label, timeout := timeout, timer := timerFor timeout,
    policy := .keepOldest, watermark := 1, mask := {}, cause := .none })

/-- The payload of an accepted ATTACH (R161, Table 10-5). -/
def attachPayload (n : Port) (p : PortCtl) : List Byte :=
  bytesOf 2 Config.identity.toNat ++ [Config.revision, portByte n, p.role.value, p.cause.value,
    16, 32, 4, 8, 64, 16, 8, 4, 124]

/-- ATTACH of port n (R160, R161). -/
def attachBlock (n : Port) (label : BitVec 32) (timeout force : Byte) (s : State) : Reply × State :=
  match flagOf force with
  | none => (Reply.refuse .badArgument, s)
  | some f =>
    let p := s.port n
    match p.session with
    | .detached => (Reply.ok (attachPayload n p), openSession n label timeout s)
    | .attached =>
      if f then
        (Reply.ok (attachPayload n p), openSession n label timeout (sessionEnd n .reattach s))
      else (Reply.refuse .already, s)

/-- Meaning of ATTACH (R160, R161). -/
def execAttach (n : Port) (tag : Byte) (label : BitVec 32) (timeout force : Byte) (s : State) :
    Host.Outcome State Fault Refusal :=
  hostCommand n tag (.attach n tag label timeout force) (attachBlock n label timeout force) s

/-! ### DETACH (R162) -/

/-- DETACH of port n: the session ends with cause REQUEST and OK follows (R162). -/
def detachBlock (n : Port) (s : State) : Reply × State := (Reply.ok [], sessionEnd n .request s)

/-- Meaning of DETACH (R162). -/
def execDetach (n : Port) (tag : Byte) (s : State) : Host.Outcome State Fault Refusal :=
  hostCommand n tag (.detach n tag) (detachBlock n) s

/-! ### SET_PORT (R168) -/

/-- SET_PORT of port n (R168). -/
def setPortBlock (n : Port) (policy watermark classMask timeout : Byte) (s : State) : Reply × State :=
  match policyOf policy, rangeOf 1 64 watermark, maskOf classMask with
  | some pol, some w, some m =>
    (Reply.ok [policy, watermark, classMask, timeout],
      judgeAttn n (s.setPort n { s.port n with
        policy := pol, watermark := w, mask := m, timeout := timeout, timer := timerFor timeout }))
  | _, _, _ => (Reply.refuse .badArgument, s)

/-- Meaning of SET_PORT (R168). -/
def execSetPort (n : Port) (tag policy watermark classMask timeout : Byte) (s : State) :
    Host.Outcome State Fault Refusal :=
  hostCommand n tag (.setPort n tag policy watermark classMask timeout)
    (setPortBlock n policy watermark classMask timeout) s

/-! ### READ_STATUS (R169) -/

/-- The number of records in state FREE (R169). -/
def freeCountOf (s : State) : Nat := (subIds.filter fun i => (s.record i).state == .free).length

/-- SEQ's part of READ_STATUS (R50). -/
def seqPayload (q : Seq) : List Byte :=
  [q.state.value] ++ bytesOf 3 q.fn.toNat ++
    [byteOf q.slots, byteOf q.divider.value, q.source.value, q.sync.value, byteOf q.spots.length]

/-- DLV's part of READ_STATUS for the calling port (R169). -/
def queuePayload (q : PortQueues) : List Byte :=
  [byteOf q.samples.length, byteOf q.sampleUnacked, byteOf q.lost, byteOf q.events.length,
    byteOf q.eventUnacked]

/-- One port's part of READ_STATUS (R169). -/
def portPayload (p : PortCtl) : List Byte :=
  [p.session.value, p.role.value] ++ bytesOf 4 p.label.toNat

/-- The payload of READ_STATUS (Table 10-5); all parts are read at one moment (log 7). -/
def statusPayload (n : Port) (s : State) : List Byte :=
  seqPayload s.seq ++ [s.conv.power.value, s.isel.refOk.value, byteOf (freeCountOf s)]
    ++ queuePayload (s.queues n) ++ ports.flatMap fun m => portPayload (s.port m)

/-- READ_STATUS of port n (R169). -/
def readStatusBlock (n : Port) (s : State) : Reply × State := (Reply.ok (statusPayload n s), s)

/-- Meaning of READ_STATUS (R169). -/
def execReadStatus (n : Port) (tag : Byte) (s : State) : Host.Outcome State Fault Refusal :=
  hostCommand n tag (.readStatus n tag) (readStatusBlock n) s

/-! ### Transactions (R150, R151, R153, R155, R171) -/

/-- The state with the transaction of a port replaced. -/
def setTransaction (n : Port) (t : Transaction) (s : State) : State :=
  s.setPort n { s.port n with transaction := t }

/-- SSn falls: the controller takes a copy of the holder and presents its first bit on MISOn (R150). While a
reset lasts the transaction is ignored in full and MISOn stays high-impedance (R171). SSn that is low already does
not fall (log 15). -/
def startTransaction (n : Port) (s : State) : State :=
  let p := s.port n
  match p.transaction with
  | .ignored => s
  | .active _ _ => s
  | .idle =>
    if s.resetting.isSome then setTransaction n .ignored s
    else s.setPort n { p with
      transaction := .active (holderCopy p) (p.holder == .pending), miso := presented (holderCopy p) }

/-- Meaning of TRANSACTION_START (R150). -/
def execTransactionStart (n : Port) (s : State) : Host.Outcome State Fault Refusal :=
  .next (startTransaction n s)

/-- A command frame taken with a holder that was EMPTY or READY (R153, R157): it is put into PENDING and
checked; a refusal is READY at once (log 6), and a command that passes is in execution until its block takes
it. -/
def dispatchFrame (n : Port) (f : Frame) (s : State) : State :=
  match decodeCommand n f.tag f.code f.payload with
  | .unknown => respond n f.tag (Reply.refuse .unknownCommand) (openCommand n f.tag none s)
  | .badLength => respond n f.tag (Reply.refuse .badLength) (openCommand n f.tag none s)
  | .command c =>
    let s1 := openCommand n f.tag (some c) s
    match portCheck n c s1 with
    | some st => respond n f.tag (Reply.refuse st) s1
    | none => s1

/-- Is the frame a well-formed FETCH (R153)? -/
def Frame.isFetch (f : Frame) : Bool := f.code == 0 && f.payload.isEmpty

/-- A well-formed frame is taken: the session timer restarts (R163); FETCH changes nothing more (R156); any
other frame is discarded when the holder was PENDING at the fall of SSn (R155), else handled as a command
(R153). -/
def takeFrame (n : Port) (pendingAtFall : Bool) (f : Frame) (s : State) : State :=
  let s1 := restartTimer n s
  if f.isFetch then s1
  else if pendingAtFall then discardFrame n s1
  else dispatchFrame n f s1

/-- A malformed frame is taken: BAD_FRAME becomes READY (R151), or the frame is discarded when the holder was
PENDING at the fall of SSn (R155). -/
def takeMalformed (n : Port) (pendingAtFall : Bool) (s : State) : State :=
  if pendingAtFall then discardFrame n s
  else s.setPort n { s.port n with
    holder := .ready ⟨.badFrame, 0, []⟩, overrun := false, inExec := none }

/-- The received bits of a transaction are taken as a command frame (R151). A transaction with no complete
byte is ignored. -/
def takeBits (n : Port) (pendingAtFall : Bool) (mosi : List Bool) (s : State) : State :=
  match gather mosi with
  | [] => s
  | b :: rest =>
    match parseFrame (b :: rest) with
    | none => takeMalformed n pendingAtFall s
    | some f => takeFrame n pendingAtFall f s

/-- The transaction is over: MISOn has carried the copy and its fill, SSn is high and MISOn high-impedance
(R150). -/
def closeTransaction (n : Port) (copy : List Byte) (clocks : Nat) (s : State) : State :=
  s.setPort n { s.port n with
    transaction := .idle, miso := .highImpedance, misoCarried := carriedBits copy clocks }

/-- An ignored transaction is over: MISOn was high-impedance throughout it (R171). -/
def closeIgnored (n : Port) (clocks : Nat) (s : State) : State :=
  s.setPort n { s.port n with transaction := .idle, misoCarried := carriedNothing clocks }

/-- SSn rises after these bits (R151). A transaction that R171 ignores is not taken. When no fall of SSn came
before, the frame is taken with the holder as it stands (log 15). -/
def endTransaction (n : Port) (mosi : List Bool) (s : State) : State :=
  let p := s.port n
  match p.transaction with
  | .ignored => closeIgnored n mosi.length s
  | .active copy pendingAtFall =>
    takeBits n pendingAtFall mosi (closeTransaction n copy mosi.length s)
  | .idle =>
    if s.resetting.isSome then closeIgnored n mosi.length s
    else takeBits n (p.holder == .pending) mosi (closeTransaction n (holderCopy p) mosi.length s)

/-- Meaning of COMMAND_FRAME (R151). -/
def execCommandFrame (n : Port) (mosi : List Bool) (s : State) : Host.Outcome State Fault Refusal :=
  .next (endTransaction n mosi s)

/-! ### Session timer (R163) -/

/-- The session timer of port n expires and its session ends with cause TIMEOUT (R163). A timer that is
stopped does not expire (log 4). -/
def sessionExpiry (n : Port) (s : State) : State :=
  let p := s.port n
  if p.session = .attached ∧ p.timer.isSome then sessionEnd n .timeout s else s

/-- Meaning of SESSION_TIMER_EXPIRY (R163). -/
def execSessionTimerExpiry (n : Port) (s : State) : Host.Outcome State Fault Refusal :=
  unlessReset (sessionExpiry n) s

end Sys2Proof.Machine
end

