-- ==== Sys2Proof/Machine/Resets.lean ====
section
/-! DEFINITION. Reset (R65, R79, R128, R147, R170, R171): its beginning, at which every block takes its reset
values, and its end, at which each port controller samples its strap and records the cause. -/

namespace Sys2Proof.Machine

/-- A transaction in progress when a reset begins or ends is not taken (R171). -/
def Transaction.spoil : Transaction → Transaction
  | .idle => .idle
  | .ignored => .ignored
  | .active _ _ => .ignored

/-- A port controller at the beginning of a reset: its reset values, with the role and the reset cause left
until the end of the reset records new ones (R170, log 17). MISOn is high-impedance (R170); what it showed in the
last whole transaction is a record of the past. -/
def resetPort (p : PortCtl) : PortCtl :=
  { role := p.role, cause := p.cause, transaction := p.transaction.spoil, misoCarried := p.misoCarried }

/-- The kind of a reset that begins, during one that lasts or not: a low level on RSTn during a power-on
reset is part of the power-on reset (R170). -/
def resetKind (kind : ResetKind) (now : Option ResetKind) : ResetKind :=
  match kind, now with
  | .powerOn, _ => .powerOn
  | .resetPin, some .powerOn => .powerOn
  | .resetPin, some .resetPin => .resetPin
  | .resetPin, none => .resetPin

/-- A reset begins: work in progress is abandoned and every block takes its reset values (R170). The level at
the REFIN pin, the waiting commands and the count of free values are not the part's to reset. -/
def beginReset (kind : ResetKind) (s : State) : State where
  isel := { refin := s.isel.refin }
  hpc := tabulate fun n => resetPort (s.port n)
  resetting := some (resetKind kind s.resetting)
  freeCount := s.freeCount
  pending := s.pending

/-- Meaning of RESET (R170). -/
def execReset (kind : ResetKind) (s : State) : Host.Outcome State Fault Refusal :=
  .next (beginReset kind s)

/-- The role that a strap level selects: high CONTROL, low MONITOR (R159). -/
def roleOfStrap (high : Bool) : Role := if high then .control else .monitor

/-- The reset cause that a kind of reset records (R170). -/
def causeOf : ResetKind → ResetCause
  | .powerOn => .powerOn
  | .resetPin => .resetPin

/-- A port controller at the end of a reset: strap sampled, cause recorded, a transaction in progress ignored
with MISOn high-impedance (R159, R170, R171). -/
def endResetPort (high : Bool) (kind : ResetKind) (p : PortCtl) : PortCtl :=
  { p with
    role := roleOfStrap high, cause := causeOf kind, transaction := p.transaction.spoil, miso := .highImpedance }

/-- The strap level of a port. -/
def strapOf (strap0 strap1 strap2 : Bool) (n : Port) : Bool :=
  if n = 0 then strap0 else if n = 1 then strap1 else strap2

/-- The reset ends (R159, R170). When no reset lasts, none ends (log 4). -/
def finishReset (strap0 strap1 strap2 : Bool) (s : State) : State :=
  match s.resetting with
  | none => s
  | some kind =>
    { s with
      hpc := tabulate fun n => endResetPort (strapOf strap0 strap1 strap2 n) kind (s.port n)
      resetting := none }

/-- Meaning of RESET_END (R170). -/
def execResetEnd (strap0 strap1 strap2 : Bool) (s : State) : Host.Outcome State Fault Refusal :=
  .next (finishReset strap0 strap1 strap2 s)

end Sys2Proof.Machine
end

