-- ==== Sys2Proof/Machine/Dispatch.lean ====
section
/-! DEFINITION. One arm for each command and event of spec/opcode_table.json, each one call of its meaning. -/

namespace Sys2Proof.Machine

def exec (i : Instr) (s : State) : Host.Outcome State Fault Refusal :=
  match i with
  | .fetch n tag => Sys2Proof.Machine.execFetch n tag s
  | .attach n tag label timeout force => Sys2Proof.Machine.execAttach n tag label timeout force s
  | .detach n tag => Sys2Proof.Machine.execDetach n tag s
  | .setPort n tag policy watermark classMask timeout => Sys2Proof.Machine.execSetPort n tag policy watermark classMask timeout s
  | .readStatus n tag => Sys2Proof.Machine.execReadStatus n tag s
  | .create n tag params options => Sys2Proof.Machine.execCreate n tag params options s
  | .modify n tag id params => Sys2Proof.Machine.execModify n tag id params s
  | .release n tag id => Sys2Proof.Machine.execRelease n tag id s
  | .join n tag id => Sys2Proof.Machine.execJoin n tag id s
  | .leave n tag id => Sys2Proof.Machine.execLeave n tag id s
  | .adopt n tag id => Sys2Proof.Machine.execAdopt n tag id s
  | .readSub n tag id => Sys2Proof.Machine.execReadSub n tag id s
  | .readPlan n tag residue => Sys2Proof.Machine.execReadPlan n tag residue s
  | .run n tag => Sys2Proof.Machine.execRun n tag s
  | .stop n tag => Sys2Proof.Machine.execStop n tag s
  | .configTiming n tag slots divider source timeout => Sys2Proof.Machine.execConfigTiming n tag slots divider source timeout s
  | .spot n tag input spotTag profile timeout => Sys2Proof.Machine.execSpot n tag input spotTag profile timeout s
  | .cancelSpot n tag spotTag => Sys2Proof.Machine.execCancelSpot n tag spotTag s
  | .configInput n tag input mode polarity => Sys2Proof.Machine.execConfigInput n tag input mode polarity s
  | .readInputs n tag => Sys2Proof.Machine.execReadInputs n tag s
  | .setProfile n tag index gain offset => Sys2Proof.Machine.execSetProfile n tag index gain offset s
  | .readProfile n tag index => Sys2Proof.Machine.execReadProfile n tag index s
  | .armTrip n tag line => Sys2Proof.Machine.execArmTrip n tag line s
  | .ackTrip n tag line => Sys2Proof.Machine.execAckTrip n tag line s
  | .disarmTrip n tag line => Sys2Proof.Machine.execDisarmTrip n tag line s
  | .readTrip n tag line => Sys2Proof.Machine.execReadTrip n tag line s
  | .readSamples n tag ack max => Sys2Proof.Machine.execReadSamples n tag ack max s
  | .readEvents n tag ack max => Sys2Proof.Machine.execReadEvents n tag ack max s
  | .readLatest n tag ids => Sys2Proof.Machine.execReadLatest n tag ids s
  | .transactionStart n => Sys2Proof.Machine.execTransactionStart n s
  | .commandFrame n mosi => Sys2Proof.Machine.execCommandFrame n mosi s
  | .sessionTimerExpiry n => Sys2Proof.Machine.execSessionTimerExpiry n s
  | .frameTimerExpiry => Sys2Proof.Machine.execFrameTimerExpiry s
  | .syncEdge => Sys2Proof.Machine.execSyncEdge s
  | .syncTimerExpiry => Sys2Proof.Machine.execSyncTimerExpiry s
  | .warmUpExpiry refin => Sys2Proof.Machine.execWarmUpExpiry refin s
  | .slotStart refin => Sys2Proof.Machine.execSlotStart refin s
  | .conversionComplete vin vref => Sys2Proof.Machine.execConversionComplete vin vref s
  | .reset kind => Sys2Proof.Machine.execReset kind s
  | .resetEnd strap0 strap1 strap2 => Sys2Proof.Machine.execResetEnd strap0 strap1 strap2 s

end Sys2Proof.Machine
end

