-- ==== Sys2Proof/Safety.lean ====
section
/-! DEFINITION. The terms in which the statements of Certificates/ speak: when a command may be taken, what an
answered port controller holds, what a list of events leaves in the queues, what a boundary leaves, and the
laws that the manual says hold at all times. -/

namespace Sys2Proof.Safety

open Sys2Proof Sys2Proof.Machine

/-! ### Taking a command -/

/-- Port n may have command c taken now: no reset lasts (R170), and the holder is not PENDING with another
command (R154, R155). -/
def Free (n : Port) (c : Instr) (s : State) : Prop :=
  s.resetting = none ∧ ((s.port n).holder = .pending → (s.port n).inExec = some c)

/-- Port n is ATTACHED. -/
def Attached (n : Port) (s : State) : Prop := (s.port n).session = .attached

/-- Port n is an ATTACHED CONTROL port. -/
def Control (n : Port) (s : State) : Prop := Attached n s ∧ (s.port n).role = .control

/-- A port controller whose command has been answered (R153, R154, R163): the answer is READY with the
command's tag. When the command's frame had been put into PENDING before, the overrun flag, the pending tag
and the timer stay as they are; else the frame is taken with the command, so the flag is cleared, the tag
recorded and the session timer of an ATTACHED port restarted. -/
def answeredPort (p : PortCtl) (tag : Byte) (st : Status) (payload : List Byte) : PortCtl :=
  if p.holder = .pending then { p with holder := .ready ⟨st, tag, payload⟩, inExec := none }
  else { p with
    holder := .ready ⟨st, tag, payload⟩, inExec := none, overrun := false, pendingTag := tag,
    timer := if p.session = .attached then timerFor p.timeout else p.timer }

/-- The state s with port n answered and nothing else changed. -/
def answered (n : Port) (tag : Byte) (st : Status) (payload : List Byte) (s : State) : State :=
  { s with hpc := put s.hpc n (answeredPort (s.port n) tag st payload) }

/-- Port n of t is port n of s answered, and the other port controllers are those of s. -/
def Answers (n : Port) (tag : Byte) (st : Status) (payload : List Byte) (s t : State) : Prop :=
  t.hpc = put s.hpc n (answeredPort (s.port n) tag st payload)

/-! ### The bytes of fields and records (R172, R174, R175, R177, R178) -/

/-- A field of two bytes, most significant byte first (R174). -/
def twoBytes (v : BitVec 16) : List Byte := [v.extractLsb' 8 8, v.extractLsb' 0 8]

/-- A field of three bytes, most significant byte first (R174). -/
def threeBytes (v : BitVec 24) : List Byte := [v.extractLsb' 16 8, v.extractLsb' 8 8, v.extractLsb' 0 8]

/-- A field of four bytes, most significant byte first (R174). -/
def fourBytes (v : BitVec 32) : List Byte :=
  [v.extractLsb' 24 8, v.extractLsb' 16 8, v.extractLsb' 8 8, v.extractLsb' 0 8]

/-- Table 10-7: the statuses in the order of their values, from 00H to 1AH. -/
def statusTable : List Status :=
  [.ok, .badFrame, .unknownCommand, .badLength, .badArgument, .notAttached, .already, .role, .notOwner,
    .notFound, .noEntry, .noCapacity, .inputMode, .inUse, .busyState, .stagedConflict, .queueFull, .portLimit,
    .duplicate, .inFlight, .notVoter, .notMember, .notOrphan, .pinMode, .tripState, .badAck, .pending]

/-- The value of a status (Table 10-7). -/
def statusByte (st : Status) : Byte := BitVec.ofNat 8 (statusTable.idxOf st)

/-- Table 10-8: the values of the event codes. -/
def eventTable : List (Byte × EventCode) :=
  [(0x01, .watchAlarmHigh), (0x02, .watchAlarmLow), (0x03, .watchClear), (0x10, .subEnded),
    (0x11, .subOrphaned), (0x12, .subAdopted), (0x20, .tripAsserted), (0x21, .tripReleased),
    (0x30, .seqStarted), (0x31, .seqStopped), (0x38, .syncEarly), (0x39, .syncLost), (0x3A, .syncRegained),
    (0x40, .refFault), (0x41, .refRecovered), (0x42, .portDetached), (0x50, .spotExpired), (0x7F, .eventsLost)]

/-- The value of an event code (Table 10-8). -/
def eventByte (c : EventCode) : Byte := ((eventTable.find? fun x => decide (x.2 = c)).map Prod.fst).getD 0

/-- The sixteen bytes of a sample record by Table 10-6. -/
def sampleRow (r : SampleRecord) : List Byte :=
  let kind : BitVec 2 := match r.kind with
    | .sub => 0
    | .spot => 1
    | .empty => 2
  let watch : BitVec 3 := match r.watch with
    | none => 0
    | some .normal => 0
    | some .highPending => 1
    | some .highAlarm => 2
    | some .lowPending => 3
    | some .lowAlarm => 4
  let raw : BitVec 12 := r.raw.getD 0
  let bit (b : Bool) : BitVec 1 := BitVec.ofBool b
  [kind ++ bit r.frame.isSome ++ bit r.value.isSome ++ bit r.raw.isSome ++ bit r.watch.isSome ++ 0#2, r.ident]
    ++ twoBytes r.sequence ++ threeBytes (r.frame.getD 0) ++ threeBytes (r.value.getD 0)
    ++ [0#1 ++ watch ++ raw.extractLsb' 8 4, raw.extractLsb' 0 8, BitVec.ofNat 8 r.folded, r.generation,
      BitVec.ofNat 8 r.lost,
      0#2 ++ bit r.flags.refFault ++ bit r.flags.noData ++ bit r.flags.missed ++ bit r.flags.railHigh
        ++ bit r.flags.railLow ++ bit r.flags.clipped]

/-- The eight bytes of an event record (R178): the count byte is 0 for every code but EVENTS_LOST. -/
def eventRow (e : EventEntry) : List Byte :=
  [eventByte e.code, e.subject] ++ threeBytes e.frame ++ twoBytes e.detail
    ++ [if e.code = .eventsLost then BitVec.ofNat 8 e.count else 0]

/-- The sixteen bytes of a parameter set (R175); an absent set, and every absent part of one, is 0 (R174). -/
def paramRow (p : Option Params) : List Byte :=
  match p with
  | none => List.replicate 16 0
  | some p => [BitVec.ofNat 8 p.input.val, BitVec.ofNat 8 p.period.val, BitVec.ofNat 8 p.phase,
      BitVec.ofNat 8 p.average.count, BitVec.ofNat 8 p.profile.val] ++
    match p.watch with
    | none => List.replicate 11 0
    | some w => [match w.trip with
          | none => 1
          | some _ => 3]
        ++ threeBytes w.low ++ threeBytes w.high ++ twoBytes w.hysteresis
        ++ [BitVec.ofNat 8 w.debounce, match w.trip with
          | none => 0
          | some l => BitVec.ofNat 8 l.val]

/-- Table 10-3 and the encodings of ports and sets of ports (R174). -/
def FieldValues : Prop :=
  [SubState.free, .staged, .active, .closing].map SubState.value = [0, 1, 2, 3] ∧
  [SeqState.stopped, .starting, .running, .halting].map SeqState.value = [0, 1, 2, 3] ∧
  [SyncSource.internal, .external].map SyncSource.value = [0, 1] ∧
  [SyncState.off, .waiting, .locked, .fallback].map SyncState.value = [0, 1, 2, 3] ∧
  [PowerState.off, .warming, .ready, .busy].map PowerState.value = [0, 1, 2, 3] ∧
  [RefFlag.ok, .fault].map RefFlag.value = [0, 1] ∧
  [InputMode.analog, .off, .trip].map InputMode.value = [0, 1, 2] ∧
  [Polarity.activeHigh, .activeLow].map Polarity.value = [0, 1] ∧
  [LineState.disarmed, .armed, .tripped].map LineState.value = [0, 1, 2] ∧
  [Role.monitor, .control].map Role.value = [0, 1] ∧
  [SessionState.detached, .attached].map SessionState.value = [0, 1] ∧
  [ResetCause.none, .powerOn, .resetPin].map ResetCause.value = [0, 1, 2] ∧
  (portOptByte none = 0xFF ∧ ∀ n : Port, portOptByte (some n) = BitVec.ofNat 8 n.val) ∧
  ∀ ps : PortSet, ps.value = 0#5 ++ BitVec.ofBool ps.p2 ++ BitVec.ofBool ps.p1 ++ BitVec.ofBool ps.p0

/-! ### Events (R140 to R142, R144) -/

/-- All ports as an audience. -/
def everyPort : PortSet := ⟨true, true, true⟩

/-- An event with its audience. -/
structure Announced where
  audience : PortSet
  code : EventCode
  subject : Byte
  detail : BitVec 16
  deriving DecidableEq, Repr

/-- The entry that an event offers, with FN as it stands (R140). -/
def Announced.entry (a : Announced) (fn : FrameNo) : EventEntry :=
  { code := a.code, subject := a.subject, frame := fn, detail := a.detail }

/-- Does the event reach port m: is m in the audience, ATTACHED, and the class enabled (R141)? -/
def reaches (s : State) (m : Port) (a : Announced) : Bool :=
  a.audience.has m && attached s m && (s.port m).mask.lets a.code

/-- The event queue of port m after these events, in this order, all with frame number fn (R142). -/
def eventsAfter (fn : FrameNo) (l : List Announced) (s : State) (m : Port) : List EventEntry :=
  (l.filter (reaches s m)).foldl (fun q a => offerEntry (a.entry fn) q) (s.queues m).events

/-- The delivery state of port m after these events: its event queue, and ATTNm judged again when one of them
reached it (R144). -/
def queuesAfter (fn : FrameNo) (l : List Announced) (s : State) (m : Port) : PortQueues :=
  let q := { s.queues m with events := eventsAfter fn l s m }
  if l.any (reaches s m) = true then { q with attn := attnCondition (s.port m) q } else q

/-- The state s after these events, and nothing else changed. -/
def afterEvents (l : List Announced) (s : State) : State :=
  { s with dlv := { s.dlv with queues := tabulate (queuesAfter s.seq.fn l s) } }

/-- The last event offered to every ATTACHED port with the class enabled is this one, to all attached
ports. -/
def LastEvent (fn : FrameNo) (a : Announced) (s t : State) : Prop :=
  ∀ m : Port, reaches s m a = true →
    ∃ q : List EventEntry, (t.queues m).events = offerEntry (a.entry fn) q

/-- The event has been offered to every port that it reaches, other events before and after it. -/
def Offered (fn : FrameNo) (a : Announced) (s t : State) : Prop :=
  ∀ m : Port, reaches s m a = true →
    ∃ (before after : List EventEntry),
      (t.queues m).events =
        after.foldl (fun q e => offerEntry e q)
          (offerEntry (a.entry fn) (before.foldl (fun q e => offerEntry e q) (s.queues m).events))

/-! ### Copies of sample records (R132 to R135, R138) -/

/-- The delivery state of port m after these copies, each for its own port, in this order: its sample queue,
and ATTNm judged again when one of them was for port m (R133, R144). -/
def queuesAfterCopies (l : List (Port × SampleRecord)) (s : State) (m : Port) : PortQueues :=
  let mine := (l.filter fun x => decide (x.1 = m)).map Prod.snd
  if attached s m = true ∧ mine ≠ [] then
    let q := mine.foldl (fun q r => placeCopy (s.port m).policy r q) (s.queues m)
    { q with attn := attnCondition (s.port m) q }
  else s.queues m

/-- The state s after these copies, and nothing else changed. -/
def afterCopies (l : List (Port × SampleRecord)) (s : State) : State :=
  { s with dlv := { s.dlv with queues := tabulate (queuesAfterCopies l s) } }

/-- The state s after DLV has taken a SUB record of id i: the latest table entry with lost count 0 (R138), and
one copy for each port of the reader set and for no other (R132). -/
def delivered (i : SubId) (r : SampleRecord) (s : State) : State :=
  afterCopies (((List.finRange 3).filter fun n => (s.record i).readers.has n).map fun n => (n, r))
    { s with dlv := { s.dlv with latest := put s.dlv.latest i (some { r with lost := 0 }) } }

/-! ### The beginning of a conversion (R58, R62) -/

/-- The event of a reference check that changes the flag, none when it does not (R58). -/
def referenceEvents (flag : RefFlag) (good : Bool) (k : InputNo) : List Announced :=
  match flag, good with
  | .ok, true => []
  | .fault, true => [⟨everyPort, .refRecovered, 0, BitVec.ofNat 16 k.val⟩]
  | .ok, false => [⟨everyPort, .refFault, 0, BitVec.ofNat 16 k.val⟩]
  | .fault, false => []

/-- The state s after a conversion of input k has begun with REFIN at its level: the input is routed, the
reference checked, and the converter BUSY with the slot time of the divider in force (R58, R62). -/
def conversionBegun (k : InputNo) (frame : Option FrameNo) (due : List Due) (s : State) : State :=
  let good : Bool := decide (2400000 ≤ s.isel.refin ∧ s.isel.refin ≤ 2600000)
  afterEvents (referenceEvents s.isel.refOk good k) { s with
    isel := { s.isel with routed := some k, refOk := if good then .ok else .fault }
    conv := { s.conv with power := .busy, conversion := some {
      input := k, refFault := !good, slotTime := s.seq.divider.value, frame := frame, due := due } } }

/-- The state s after standalone service of the head entry has begun: the entries from the head up to the first
of another input are in flight, and their conversion has begun (R73, R74). -/
def standaloneBegun (k : InputNo) (s : State) : State :=
  let served := s.seq.spots.takeWhile fun e => decide (e.input = k)
  let behind := s.seq.spots.dropWhile fun e => decide (e.input = k)
  conversionBegun k none [] { s with
    seq := { s.seq with spots := served.map (fun e => { e with place := .inFlight }) ++ behind } }

/-! ### Records, claims and the plan (R4, R5, R6) -/

/-- The state s with one subscription record replaced, and nothing else changed. -/
def withRecord (i : SubId) (r : SubRecord) (s : State) : State :=
  { s with subt := { s.subt with records := put s.subt.records i r } }

/-- What a reservation adds to the demand count of residue r and input k (R5). -/
def claimAt (p : Option Params) (r : Residue) (k : InputNo) : Nat :=
  match p with
  | none => 0
  | some q => if r.val % 2 ^ q.period.val = q.phase ∧ k = q.input then 1 else 0

/-- The demand count of residue r and input k in the trial table of a claim (R6): the reservation `old` taken
away, the claim `new` added. -/
def trial (s : State) (old new : Option Params) (r : Residue) (k : InputNo) : Nat :=
  s.subt.plan[r][k] - claimAt old r k + claimAt new r k

/-- The number of inputs with nonzero demand. -/
def inputsDemanded (d : InputNo → Nat) : Nat := ((List.finRange 16).filter fun k => decide (0 < d k)).length

/-- Every residue of the trial table demands at most S inputs (R6). -/
def Admitted (s : State) (old new : Option Params) : Prop :=
  ∀ r : Residue, inputsDemanded (trial s old new r) ≤ s.seq.slots

/-- Between s and t the reservation `old` has left the plan table and `new` has joined it (R5). -/
def PlanMoves (old new : Option Params) (s t : State) : Prop :=
  ∀ (r : Residue) (k : InputNo), t.subt.plan[r][k] = trial s old new r k

/-- Between s and t one record has changed from `old` to `new`: use counts follow its named inputs, and modes,
polarities and pins are those of s (R4). -/
def UseFollows (old new : SubRecord) (s t : State) : Prop :=
  ∀ k : InputNo, t.input k = { s.input k with
    useCount := (s.input k).useCount + (if new.names k && !old.names k then 1 else 0)
      - (if old.names k && !new.names k then 1 else 0) }

/-- The state s with the record of id i replaced, its reservation moved in the plan table (R5) and the use
counts following its named inputs (R4), and nothing else changed. -/
def recordMoved (i : SubId) (new : SubRecord) (s : State) : State :=
  let old := s.record i
  { s with
    subt := {
      records := put s.subt.records i new
      plan := tabulate fun r => tabulate fun k => trial s old.reserved new.reserved r k }
    isel := { s.isel with inputs := tabulate fun k => { s.input k with
      useCount := (s.input k).useCount + (if new.names k && !old.names k then 1 else 0)
        - (if old.names k && !new.names k then 1 else 0) } } }

/-- Between s and t no record but that of id i has changed. -/
def OtherRecordsKept (i : SubId) (s t : State) : Prop := ∀ j : SubId, j ≠ i → t.record j = s.record j

/-! ### The laws that hold at all times -/

/-- The number of ids with a property. -/
def countIds (f : SubId → Bool) : Nat := ((List.finRange 32).filter f).length

/-- R5: every demand count is the number of records that reserve it. -/
def PlanLaw (s : State) : Prop :=
  ∀ (r : Residue) (k : InputNo),
    s.subt.plan[r][k] = countIds fun i => decide (claimAt (s.record i).reserved r k = 1)

/-- R6: every residue demands at most S inputs. -/
def CapacityLaw (s : State) : Prop :=
  ∀ r : Residue, inputsDemanded (fun k => s.subt.plan[r][k]) ≤ s.seq.slots

/-- R53: the use count of an input is the number of records that name it and of spot entries for it, and an
input with a use count is in ANALOG mode. -/
def UseLaw (s : State) : Prop :=
  ∀ k : InputNo,
    (s.input k).useCount = countIds (fun i => (s.record i).names k)
      + (s.seq.spots.filter fun e => e.input == k).length ∧
    (0 < (s.input k).useCount → (s.input k).mode = .analog)

/-- R107: the alarm set of a line holds, in ascending order, the ids whose watch is not frozen, is bound to
the line and is in an alarm state. -/
def AlarmLaw (s : State) : Prop :=
  ∀ t : LineNo, s.alarms t = (List.finRange 32).filter fun i => inAlarmSet (s.watch i) t

/-- R130 and R144: the bounds of the queues and counts, EVENTS_LOST newest, a DETACHED port's queues empty,
and ATTNn as R144 says. -/
def DeliveryLaw (s : State) : Prop :=
  ∀ n : Port,
    (s.queues n).samples.length ≤ 64 ∧
    (s.queues n).sampleUnacked ≤ 7 ∧ (s.queues n).sampleUnacked ≤ (s.queues n).samples.length ∧
    (s.queues n).lost ≤ 255 ∧
    (s.queues n).events.length ≤ 16 ∧
    (s.queues n).eventUnacked ≤ 15 ∧ (s.queues n).eventUnacked ≤ (s.queues n).events.length ∧
    (∀ e ∈ (s.queues n).events.dropLast, e.code ≠ .eventsLost) ∧
    ((s.queues n).events.length = 16 →
      ∃ e, (s.queues n).events.getLast? = some e ∧ e.code = .eventsLost) ∧
    ((s.port n).session = .detached → s.queues n = {}) ∧
    ((s.queues n).attn = true ↔ (s.port n).session = .attached ∧
      (0 < (s.queues n).events.length ∨ (s.port n).watermark ≤ (s.queues n).samples.length))

/-- R170 and R171: while a reset lasts every block holds its reset values, and no transaction is in progress but
one that is ignored in full, with every MISOn high-impedance; the level at the REFIN pin is not the part's (log
8), role and reset cause stay until the end of the reset (log 17), and what MISOn carried last is a record of the
past (log 19). -/
def ResetLaw (s : State) : Prop :=
  s.resetting ≠ none →
    s.isel = { refin := s.isel.refin } ∧ s.conv = {} ∧ s.seq = {} ∧ s.subt = {} ∧ s.asu = {} ∧
    s.wtu = {} ∧ s.tripc = {} ∧ s.dlv = {} ∧
    ∀ n : Port,
      s.port n = { role := (s.port n).role, cause := (s.port n).cause,
                   transaction := (s.port n).transaction, miso := .highImpedance,
                   misoCarried := (s.port n).misoCarried } ∧
      ((s.port n).transaction = .idle ∨ (s.port n).transaction = .ignored)

/-- The first bit of a transaction's copy, or of the FFH fill (R150). -/
def firstBit (copy : List Byte) : Bool :=
  match copy with
  | [] => true
  | b :: _ => b.getLsbD 7

/-- R150, R170 and R171: MISOn is high-impedance while SSn is high and throughout an ignored transaction, and
driven in any other; between the fall of SSn and the taking of the frame it shows the first bit (log 19). -/
def MisoLaw (s : State) : Prop :=
  ∀ n : Port, (s.port n).miso =
    match (s.port n).transaction with
    | .idle => .highImpedance
    | .ignored => .highImpedance
    | .active copy _ => .driven (firstBit copy)

/-- Is this record STAGED or ACTIVE? -/
abbrev Live (r : SubRecord) : Prop := r.state = .staged ∨ r.state = .active

/-- R2: a STAGED or ACTIVE record has an ATTACHED CONTROL owner, or none and persist; every reader is
ATTACHED. R28: every voter is an ATTACHED CONTROL port. R66: every spot entry's port is ATTACHED. R97: a
staging port is an ATTACHED CONTROL port. R114, R126: so is every member of an arming set. -/
def SessionLaw (s : State) : Prop :=
  (∀ i : SubId, Live (s.record i) →
    match (s.record i).owner with
    | none => (s.record i).persist = true
    | some n => Control n s) ∧
  (∀ (i : SubId) (n : Port), (s.record i).readers.has n = true → Attached n s) ∧
  (∀ n : Port, s.seq.votes.has n = true → Control n s) ∧
  (∀ e ∈ s.seq.spots, Attached e.port s) ∧
  (∀ (p : ProfileNo) (v : StagedValue), (s.profile p).staged = some v → Control v.port s) ∧
  (∀ (t : LineNo) (n : Port), (s.line t).arming.has n = true → Control n s)

/-- R28: with no vote the sequencer is STOPPED or HALTING, with a vote STARTING or RUNNING; HALTING has a halt
cause (R30, R35); STOPPED has no timer and no list (R34). -/
def VoteLaw (s : State) : Prop :=
  (s.seq.votes = ⟨false, false, false⟩ ↔ s.seq.state = .stopped ∨ s.seq.state = .halting) ∧
  (s.seq.state = .halting → s.seq.haltCause ≠ none) ∧
  (s.seq.state = .stopped → s.seq.frameTimer = none ∧ s.seq.syncTimer = none ∧ s.seq.list = [])

/-- R41, R60 and R62: the converter is BUSY exactly while a conversion is in progress, whose input is the one
routed, and its warm-up timer runs exactly while it is WARMING. R37, R40 and R41: while frames run, slots and
list entries lie in slots 1 to S, one entry a slot and one slot an input, so that no frame begins more than S
conversions. -/
def ConverterLaw (s : State) : Prop :=
  (s.conv.power = .busy ↔ s.conv.conversion ≠ none) ∧
  (s.conv.power = .warming ↔ s.conv.warmUp ≠ none) ∧
  s.isel.routed = s.conv.conversion.map Conversion.input ∧
  ((s.seq.state = .running ∨ s.seq.state = .halting) →
    s.seq.slot ≤ s.seq.slots ∧
    (∀ x ∈ s.seq.list, 1 ≤ x.slot ∧ x.slot ≤ s.seq.slots) ∧
    (s.seq.list.map ListEntry.slot).Nodup ∧ (s.seq.list.map ListEntry.input).Nodup)

/-- R81 and R82: exactly the ACTIVE records have a window, of the record's generation and with the average count
and profile of its current parameters; its position is less than A and is the folded count plus the miss count
(so that the folded count never exceeds the position plus one), and the sum is within that of its codes. R100
and R112: an ACTIVE record has a watch exactly when its current parameters hold one, not frozen and of the
record's generation; a CLOSING record has a frozen watch or none; the others have none. -/
def WindowLaw (s : State) : Prop :=
  ∀ i : SubId,
    ((s.window i).isSome = true ↔ (s.record i).state = .active) ∧
    (∀ w, s.window i = some w →
      w.generation = (s.record i).generation ∧
      (s.record i).current.map Params.average = some w.average ∧
      (s.record i).current.map Params.profile = some w.profile ∧
      w.position < w.average.count ∧ w.position = w.folded + w.misses ∧ w.sum ≤ 4095 * w.folded) ∧
    ((s.record i).state = .active →
      (s.watch i).map Watch.part = (s.record i).current.bind Params.watch ∧
      ∀ w, s.watch i = some w → w.frozen = false ∧ w.generation = (s.record i).generation) ∧
    ((s.record i).state = .closing → ∀ w, s.watch i = some w → w.frozen = true) ∧
    ((s.record i).state = .free ∨ (s.record i).state = .staged → s.watch i = none)

/-- R92 and R96: P0 keeps gain 4096, offset 0 and no staged value; while the sequencer is STOPPED no profile
holds a staged value. -/
def ProfileLaw (s : State) : Prop :=
  s.profile 0 = { gain := 4096, offset := 0, staged := none } ∧
  (s.seq.state = .stopped → ∀ p : ProfileNo, (s.profile p).staged = none)

/-- Every member of the first set is in the second. -/
def Within (a b : PortSet) : Prop := ∀ n : Port, a.has n = true → b.has n = true

/-- R114: a line with an empty arming set is DISARMED or TRIPPED, a DISARMED line has an empty arming set, the
ack set is contained in the arming set and is empty unless the line is TRIPPED. R115: a line that is not
DISARMED has its pin in TRIP mode, and every pin has the state that its mode, polarity and line give it; a
pin outside AIN12 to AIN15 is not in TRIP mode (R54). The trip count does not pass 65535 (R119). -/
def TripLaw (s : State) : Prop :=
  (∀ t : LineNo,
    ((s.line t).arming = ⟨false, false, false⟩ → (s.line t).state ≠ .armed) ∧
    ((s.line t).state = .disarmed → (s.line t).arming = ⟨false, false, false⟩) ∧
    Within (s.line t).ack (s.line t).arming ∧
    ((s.line t).state ≠ .tripped → (s.line t).ack = ⟨false, false, false⟩) ∧
    ((s.line t).state ≠ .disarmed → (s.input (lineInput t)).mode = .trip) ∧
    (s.line t).count ≤ 65535) ∧
  ∀ k : InputNo,
    (inputLine k = none → (s.input k).mode ≠ .trip) ∧
    (s.input k).drive =
      match (s.input k).mode, (s.input k).polarity, lineTripped s k with
      | .analog, _, _ => .analogInput
      | .off, _, _ => .highImpedance
      | .trip, .activeHigh, true => .drivenHigh
      | .trip, .activeHigh, false => .drivenLow
      | .trip, .activeLow, true => .drivenLow
      | .trip, .activeLow, false => .drivenHigh

/-- R66: at most 8 spot entries, at most 4 of one port, no two with the same port and tag. -/
def SpotLaw (s : State) : Prop :=
  s.seq.spots.length ≤ 8 ∧
  (∀ n : Port, (s.seq.spots.filter fun e => e.port == n).length ≤ 4) ∧
  (s.seq.spots.map fun e => (e.port, e.tag)).Nodup

/-! ### Trip lines and EXIT reports (R108, R115, R120, R122, R123) -/

/-- The level of a pin in TRIP mode (R115). -/
def tripLevel (pol : Polarity) (tripped : Bool) : PinDrive :=
  match pol, tripped with
  | .activeHigh, true => .drivenHigh
  | .activeHigh, false => .drivenLow
  | .activeLow, true => .drivenLow
  | .activeLow, false => .drivenHigh

/-- Between s and t the pins have followed the lines (R115): a pin changes only with the state of its line. -/
def PinsFollow (s t : State) : Prop :=
  ∀ k : InputNo, (t.input k).drive =
    match inputLine k with
    | none => (s.input k).drive
    | some l =>
      if (t.line l).state = (s.line l).state then (s.input k).drive
      else tripLevel (s.input k).polarity (decide ((t.line l).state = .tripped))

/-- Is this a watch in an alarm state bound to line l, frozen or not (R108)? -/
def boundInAlarm (w : Option Watch) (l : LineNo) : Bool :=
  match w with
  | none => false
  | some w => w.state.alarm && decide (w.part.trip = some l)

/-- The ids, ascending, whose watch is in an alarm state bound to line l and leaves it with an EXIT report. -/
def exitIds (l : LineNo) (leaves : SubId → Bool) (s : State) : List SubId :=
  (List.finRange 32).filter fun i => boundInAlarm (s.watch i) l && leaves i

/-- Does the line satisfy the release condition with this alarm set (R122)? -/
abbrev Releasable (alarms : List SubId) (x : Line) : Prop :=
  x.state = .tripped ∧ x.arming ≠ ⟨false, false, false⟩ ∧ x.ack = x.arming ∧ alarms = []

/-- A line after these EXIT reports, `alarms` being the alarm set that they leave (R120, R123). -/
def lineAfterExits (exits alarms : List SubId) (x : Line) : Line :=
  if exits ≠ [] ∧ Releasable alarms x then { x with state := .armed, ack := ⟨false, false, false⟩ } else x

/-- The id whose EXIT report finds the alarm set empty first, when the reports are taken in this order and each
takes its id out of the alarm set before (R120). -/
def releasingExit (alarms exits : List SubId) : Option SubId :=
  exits.find? fun i => alarms.all fun j => decide (j ≤ i)

/-- Between s and t the trip lines have taken these EXIT reports and nothing else: the alarm sets are without
the ids that reported, a line is released when the release condition then holds and is otherwise that of s
(R120, R129), and the pins follow. -/
def LinesFollow (exits : LineNo → List SubId) (s t : State) : Prop :=
  (∀ l : LineNo, t.alarms l = (s.alarms l).filter (fun i => decide (i ∉ exits l)) ∧
    t.line l = lineAfterExits (exits l) (t.alarms l) (s.line l)) ∧
  PinsFollow s t

/-- The TRIP_RELEASED of line l for the EXIT report of subscription i (R123, Table 10-8). -/
def releasedByExit (l : LineNo) (i : SubId) : Announced :=
  ⟨everyPort, .tripReleased, BitVec.ofNat 8 l.val, BitVec.ofNat 16 (256 + i.val)⟩

/-- The laws under which an alarm set loses an id only with a report: alarm sets (R107), windows and watches
(R81, R100, R112), lines and pins (R114, R115). -/
def LineLaws (s : State) : Prop := AlarmLaw s ∧ WindowLaw s ∧ TripLaw s

/-- The owner of a record, if it has one, and its readers: the audience of its events (R2). -/
def audienceOf (r : SubRecord) : PortSet :=
  ⟨decide (r.owner = some 0) || r.readers.p0, decide (r.owner = some 1) || r.readers.p1,
    decide (r.owner = some 2) || r.readers.p2⟩

/-- The SUB_ENDED of a record that becomes FREE (R14). -/
def subEndedOf (i : SubId) (r : SubRecord) : Announced :=
  ⟨audienceOf r, .subEnded, BitVec.ofNat 8 i.val, r.sequence⟩

/-! ### A frame boundary (R20, R36, R40, R96) -/

/-- A record as promotion leaves it (R20). -/
def promoted (r : SubRecord) : SubRecord :=
  match r.state, r.staged with
  | .staged, some p => { r with state := .active, current := some p, staged := none, generation := 0 }
  | .active, some p => { r with current := some p, staged := none, generation := r.generation + 1 }
  | .closing, _ => {}
  | .staged, none => r
  | .active, none => r
  | .free, _ => r

/-- The window of a record after promotion (R82). -/
def promotedWindow (r : SubRecord) (w : Option Window) : Option Window :=
  let fresh (g : BitVec 8) (p : Params) : Window :=
    { generation := g, average := p.average, profile := p.profile, position := 0, sum := 0, folded := 0,
      misses := 0, railLow := false, railHigh := false, refFault := false }
  match r.state, r.staged with
  | .staged, some p => some (fresh 0 p)
  | .active, some p => some (fresh (r.generation + 1) p)
  | .closing, _ => none
  | .staged, none => w
  | .active, none => w
  | .free, _ => w

/-- The watch of a record after promotion (R110, R111, R112). -/
def promotedWatch (r : SubRecord) (w : Option Watch) : Option Watch :=
  let fresh (g : BitVec 8) (p : WatchPart) : Watch :=
    { part := p, generation := g, state := .normal, count := 0, frozen := false }
  match r.state, r.staged with
  | .staged, some p => p.watch.map (fresh 0)
  | .active, some p =>
    if r.current.bind Params.watch = p.watch then w.map fun v => { v with generation := r.generation + 1 }
    else p.watch.map (fresh (r.generation + 1))
  | .closing, _ => none
  | .staged, none => w
  | .active, none => w
  | .free, _ => w

/-- Does promotion give the ACTIVE record another watch part (R21, R111)? -/
def watchPartChanges (r : SubRecord) : Bool :=
  decide (r.state = .active) && r.staged.any fun p => decide (r.current.bind Params.watch ≠ p.watch)

/-- Does the watch of this record leave its alarm state at promotion, by the record's return to FREE (R112) or
by reconfiguration (R111)? -/
def leavesAtPromotion (r : SubRecord) : Bool := decide (r.state = .closing) || watchPartChanges r

/-- A profile after staged values have become active (R96). -/
def activated (p : Profile) : Profile :=
  match p.staged with
  | none => p
  | some v => { gain := v.gain, offset := v.offset, staged := none }

/-- The inputs of the planned entries of a frame: those with demand at the frame's residue, ascending
(R36, R40). -/
def plannedAt (s : State) (fn : FrameNo) : List InputNo :=
  (List.finRange 16).filter fun k => decide (0 < s.subt.plan[residueOf fn][k])

/-- The ids due on input k in frame fn: ACTIVE with current parameters that name k and cover the residue
(R40). -/
def dueIds (s : State) (fn : FrameNo) (k : InputNo) : List SubId :=
  (List.finRange 32).filter fun i => decide ((s.record i).state = .active) &&
    decide (claimAt (s.record i).current (residueOf fn) k = 1)

/-- Due members in ascending id order (R83). -/
def Ascending (l : List Due) : Prop := l.Pairwise fun a b => a.id ≤ b.id

/-- A spot entry without its place: what an assignment or a return does not change. -/
def unplaced (e : SpotEntry) : SpotEntry := { e with place := .waiting }

/-- Between s and t no configuration has changed: modes and polarities of the inputs, the level at REFIN, the
settings of CONFIG_TIMING, the plan table, the arming sets and the trip counts. -/
def ConfigurationKept (s t : State) : Prop :=
  (∀ k : InputNo, (t.input k).mode = (s.input k).mode ∧ (t.input k).polarity = (s.input k).polarity) ∧
  t.isel.refin = s.isel.refin ∧ t.seq.slots = s.seq.slots ∧ t.seq.divider = s.seq.divider ∧
  t.seq.source = s.seq.source ∧ t.seq.syncTimeout = s.seq.syncTimeout ∧ t.subt.plan = s.subt.plan ∧
  ∀ l : LineNo, (t.line l).arming = (s.line l).arming ∧ (t.line l).count = (s.line l).count

/-- Between s, as it stands when a frame has ended, and t a frame boundary has been taken: FN has advanced,
the records are promoted, with windows, watches and the latest table following, staged profile values are
active, the planned entries stand first in the new list with their due sets, the spot queue keeps its order
without the entries that expire, each told to its port alone with the FN of the new frame (R69), and the free
slots go to the inputs of the WAITING entries from head to tail (R70). A CLOSING record that becomes FREE raises
SUB_ENDED (R14), a watch reconfigured out of an alarm WATCH_CLEAR with cause RECONFIGURED (R111), and the trip
lines take the EXIT reports of both in ascending id order (R20, R111, R112, R120). The configuration, the votes,
the converter, the port controllers and the sample queues are those of s. -/
def Boundary (s t : State) : Prop :=
  t.seq.fn = s.seq.fn + 1 ∧ t.seq.cut = false ∧ t.seq.slot = 0 ∧
  t.seq.votes = s.seq.votes ∧ t.seq.starter = s.seq.starter ∧ t.seq.haltCause = s.seq.haltCause ∧
  ConfigurationKept s t ∧ t.isel.routed = s.isel.routed ∧ t.isel.refOk = s.isel.refOk ∧
  (t.seq.spots.map fun e => (e.port, e.tag, e.input, e.profile)).Sublist
    (s.seq.spots.map fun e => (e.port, e.tag, e.input, e.profile)) ∧
  (∀ e ∈ s.seq.spots, e.place = .waiting → e.considered = true → e.remaining ≤ 1 →
    Offered (s.seq.fn + 1) ⟨PortSet.empty.add e.port, .spotExpired, e.tag, BitVec.ofNat 16 e.input.val⟩ s t) ∧
  ((∀ e ∈ s.seq.spots, e.place = .waiting ∨ e.place = .inFlight) →
    (t.seq.spots.map fun e => (e.port, e.tag, e.input, e.profile)) =
      ((s.seq.spots.filter fun e => decide (e.place = .inFlight) || !e.considered || decide (1 < e.remaining)).map
        fun e => (e.port, e.tag, e.input, e.profile)) ∧
    (t.seq.list.drop (plannedAt s t.seq.fn).length).map ListEntry.input =
      ((((t.seq.spots.filter fun e => decide (e.place ≠ .inFlight)).map SpotEntry.input).filter fun k =>
        decide (k ∉ plannedAt s t.seq.fn)).eraseDups.take (s.seq.slots - (plannedAt s t.seq.fn).length)) ∧
    ∀ e ∈ t.seq.spots, e.place ≠ .inFlight →
      e.place = match t.seq.list.find? (fun x => decide (x.input = e.input)) with
        | some x => .listed x.slot
        | none => .waiting) ∧
  (∀ i : SubId, (s.record i).state = .closing →
    Offered (s.seq.fn + 1) (subEndedOf i (s.record i)) s t) ∧
  (∀ (i : SubId) (w : Watch), watchPartChanges (s.record i) = true → s.watch i = some w → w.state.alarm = true →
    Offered (s.seq.fn + 1) ⟨audienceOf (s.record i), .watchClear, BitVec.ofNat 8 i.val, 1⟩ s t) ∧
  (LineLaws s →
    let exits (l : LineNo) : List SubId := exitIds l (fun i => leavesAtPromotion (s.record i)) s
    LinesFollow exits s t ∧
    ∀ l : LineNo, exits l ≠ [] → Releasable (t.alarms l) (s.line l) →
      ∃ i : SubId, releasingExit (s.alarms l) (exits l) = some i ∧
        Offered (s.seq.fn + 1) (releasedByExit l i) s t) ∧
  (∀ i : SubId, t.record i = promoted (s.record i) ∧
    t.window i = promotedWindow (s.record i) (s.window i) ∧
    t.watch i = promotedWatch (s.record i) (s.watch i) ∧
    t.dlv.latest[i] = if (s.record i).state = .closing then none else s.dlv.latest[i]) ∧
  (∀ p : ProfileNo, t.profile p = activated (s.profile p)) ∧
  (t.seq.list.take (plannedAt s t.seq.fn).length).map ListEntry.input = plannedAt s t.seq.fn ∧
  t.seq.list.map ListEntry.slot = (List.range t.seq.list.length).map (· + 1) ∧
  (∀ x ∈ t.seq.list.take (plannedAt s t.seq.fn).length, x.origin = .planned ∧
    x.due = (dueIds t t.seq.fn x.input).map fun i => ⟨i, (t.record i).generation⟩) ∧
  (∀ x ∈ t.seq.list.drop (plannedAt s t.seq.fn).length, x.origin = .spare ∧ x.due = []) ∧
  t.conv = s.conv ∧ t.hpc = s.hpc ∧
  (∀ n : Port, (t.queues n).samples = (s.queues n).samples ∧
    (t.queues n).sampleUnacked = (s.queues n).sampleUnacked ∧ (t.queues n).lost = (s.queues n).lost) ∧
  t.resetting = s.resetting ∧ t.freeCount = s.freeCount ∧ t.pending = s.pending

/-! ### Frames (Table 10-4) -/

/-- The least and the greatest L that Table 10-4 accepts for a code, none for a code that it does not list. -/
def tableLength (code : Nat) : Option (Nat × Nat) :=
  if code ∈ [0x00, 0x02, 0x04, 0x20, 0x21, 0x31] then some (0, 0)
  else if code ∈ [0x12, 0x13, 0x14, 0x15, 0x16, 0x17, 0x29, 0x39, 0x40, 0x41, 0x42, 0x43] then some (1, 1)
  else if code ∈ [0x48, 0x49] then some (2, 2)
  else if code = 0x30 then some (3, 3)
  else if code ∈ [0x03, 0x22, 0x28] then some (4, 4)
  else if code ∈ [0x01, 0x38] then some (6, 6)
  else if code ∈ [0x10, 0x11] then some (17, 17)
  else if code = 0x4A then some (1, 7)
  else none

/-- A transaction of port n in progress whose copy is `copy`, the holder having been PENDING at its start or
not, outside a reset (R150, R155). -/
def InTransaction (n : Port) (copy : List Byte) (pendingAtFall : Bool) (s : State) : Prop :=
  s.resetting = none ∧ (s.port n).transaction = .active copy pendingAtFall

/-- The port controller after the end of a transaction of k clocks: SSn is high and MISOn high-impedance, and it
has carried the copy and then ones (R150). -/
def closedPort (copy : List Byte) (k : Nat) (p : PortCtl) : PortCtl :=
  { p with
    transaction := .idle
    miso := .highImpedance
    misoCarried := ((bitStream copy ++ List.replicate k true).take k).map .driven }

/-- The port controller after the end of an ignored transaction of k clocks: MISOn was high-impedance throughout
it (R171). -/
def ignoredPort (k : Nat) (p : PortCtl) : PortCtl :=
  { p with transaction := .idle, misoCarried := List.replicate k .highImpedance }

/-- The session timer of the port restarts when the port is ATTACHED (R163). -/
def restartedPort (p : PortCtl) : PortCtl :=
  if p.session = .attached then { p with timer := if p.timeout = 0 then none else some p.timeout.toNat }
  else p

/-- The state s with port n replaced and nothing else changed. -/
def withPort (n : Port) (p : PortCtl) (s : State) : State := { s with hpc := put s.hpc n p }

/-! ### The end of a frame, and standalone service that begins with it (R42, R71, R73, R74) -/

/-- The state s with the spot entries of list entries that have not begun returned to WAITING in their places, and
nothing else changed (R42, R71, log 16). -/
def spotsReturned (s : State) : State :=
  { s with seq := { s.seq with spots := s.seq.spots.map fun e =>
      if e.place = .inFlight then e else { e with place := .waiting } } }

/-- Between s and t a standalone conversion of input k has begun: routing, CONV, reference flag and the event of a
reference check that changes it, told to the ports of the audience (R58, R62, R74); REFIN is at the level that s
holds (log 8). -/
def StandaloneStarts (audience : PortSet) (k : InputNo) (s t : State) : Prop :=
  let good : Bool := decide (2400000 ≤ s.isel.refin ∧ s.isel.refin ≤ 2600000)
  t.isel.routed = some k ∧ t.isel.refOk = (if good then .ok else .fault) ∧
  t.conv = { s.conv with power := .busy, conversion := some {
    input := k, refFault := !good, slotTime := s.seq.divider.value, frame := none, due := [] } } ∧
  ∀ a ∈ referenceEvents s.isel.refOk good k, Offered s.seq.fn { a with audience := audience } s t

/-! ### The entry to STOPPED (R14, R23, R33, R34, R61, R73, R96) -/

/-- Between s and t the sequencer has entered STOPPED: timers stopped, list empty, starting voter absent, sync
state at rest, CLOSING records FREE, each with its SUB_ENDED (R14), staged profile values active; the trip lines
take the EXIT reports of the freed records (R112, R120, R129); the converter starts standalone service for a
waiting head entry and those behind it for the same input, REFIN at the level it holds (log 8), goes OFF when it
is READY with nothing to do, and is otherwise left; the spot queue and the configuration stay. Nothing here rests
on the order in which the records become FREE (log 12). -/
def EntersStopped (s t : State) : Prop :=
  t.seq.state = .stopped ∧ t.seq.frameTimer = none ∧ t.seq.syncTimer = none ∧ t.seq.list = [] ∧
  t.seq.starter = none ∧ t.seq.fn = s.seq.fn ∧ ConfigurationKept s t ∧
  t.seq.spots.map unplaced = s.seq.spots.map unplaced ∧
  (∀ k : InputNo, (t.input k).useCount = (s.input k).useCount -
    ((List.finRange 32).filter fun i => decide ((s.record i).state = .closing) &&
      (s.record i).names k).length) ∧
  t.seq.sync = (if s.seq.source = .external then .waiting else .off) ∧
  (∀ i : SubId, t.record i = (if (s.record i).state = .closing then {} else s.record i) ∧
    t.window i = (if (s.record i).state = .closing then none else s.window i) ∧
    t.watch i = (if (s.record i).state = .closing then none else s.watch i) ∧
    t.dlv.latest[i] = if (s.record i).state = .closing then none else s.dlv.latest[i]) ∧
  (∀ p : ProfileNo, t.profile p = activated (s.profile p)) ∧
  (∀ i : SubId, (s.record i).state = .closing → Offered s.seq.fn (subEndedOf i (s.record i)) s t) ∧
  (LineLaws s →
    let exits (l : LineNo) : List SubId := exitIds l (fun i => decide ((s.record i).state = .closing)) s
    LinesFollow exits s t ∧
    ∀ l : LineNo, exits l ≠ [] → Releasable (t.alarms l) (s.line l) →
      ∃ i : SubId, i ∈ exits l ∧ Offered s.seq.fn (releasedByExit l i) s t) ∧
  ((s.conv.power ≠ .ready ∨ s.conv.conversion ≠ none) →
    t.conv = s.conv ∧ t.isel.routed = s.isel.routed ∧ t.isel.refOk = s.isel.refOk ∧
    t.seq.spots = s.seq.spots) ∧
  (s.conv.power = .ready → s.conv.conversion = none → s.seq.spots = [] →
    t.conv = { s.conv with power := .off } ∧ t.isel.routed = s.isel.routed ∧ t.isel.refOk = s.isel.refOk ∧
    t.seq.spots = []) ∧
  (s.conv.power = .ready → s.conv.conversion = none →
    ∀ e ∈ s.seq.spots.head?, e.place = .waiting →
      StandaloneStarts everyPort e.input s t ∧ t.seq.spots = (standaloneBegun e.input s).seq.spots) ∧
  (∀ n : Port, (t.queues n).samples = (s.queues n).samples ∧
    (t.queues n).sampleUnacked = (s.queues n).sampleUnacked ∧ (t.queues n).lost = (s.queues n).lost) ∧
  t.resetting = s.resetting ∧ t.freeCount = s.freeCount ∧ t.pending = s.pending

/-! ### Trip lines (R115) -/

/-- The state s with one trip line replaced, its pin in TRIP mode at the level of the line (R115), and nothing
else changed. -/
def withLine (l : LineNo) (x : Line) (s : State) : State :=
  { s with
    tripc := { s.tripc with lines := put s.tripc.lines l x }
    isel := { s.isel with inputs := put s.isel.inputs (lineInput l) { s.input (lineInput l) with
      drive := tripLevel (s.input (lineInput l)).polarity (decide (x.state = .tripped)) } } }

/-! ### A session end (R24 to R26, R165, R166) -/

/-- A record after the session end of port n, when the sequencer was in `before` and is in `after`
(R13, R23 to R26). -/
def recordAfterEnd (n : Port) (before after : SeqState) (r : SubRecord) : SubRecord :=
  let left : SubRecord := { r with
    owner := if r.owner = some n then none else r.owner, readers := r.readers.drop n }
  match r.state with
  | .free => left
  | .staged => if r.owner = some n ∧ r.persist = false then {} else left
  | .active =>
    if r.owner = some n ∧ r.persist = false then
      if after = .stopped then {} else { left with state := .closing, staged := none }
    else left
  | .closing => if before ≠ .stopped ∧ after = .stopped then {} else left

/-- The sequencer state after the vote of port n has gone (R28, R35). -/
def seqAfterEnd (n : Port) (q : Seq) : SeqState :=
  if q.votes.has n = true ∧ (q.votes.drop n) = ⟨false, false, false⟩ then
    match q.state with
    | .starting => .stopped
    | .running => .halting
    | .stopped => .stopped
    | .halting => .halting
  else q.state

/-- The ids whose watch makes an EXIT report to line l because the record has become FREE between s and t (R14,
R112). -/
def freedExits (l : LineNo) (s t : State) : List SubId :=
  exitIds l (fun i => decide ((t.record i).state = .free)) s

/-- Line l as TRIPC's share of a session end finds it: released when an EXIT report of an earlier share found
the release condition (R120, R165), else that of s. -/
def lineFound (l : LineNo) (s t : State) : Line := lineAfterExits (freedExits l s t) (t.alarms l) (s.line l)

/-- A line without port n in its arming set and its ack set (R126). -/
def withoutPort (n : Port) (x : Line) : Line := { x with arming := x.arming.drop n, ack := x.ack.drop n }

/-- A line after TRIPC's share of the session end of port n (R126): a port that is no member leaves it as it
is; an ARMED line with no other member is DISARMED; a TRIPPED one is released when the condition then holds. -/
def lineAfterEnd (n : Port) (alarms : List SubId) (x : Line) : Line :=
  let y := withoutPort n x
  if x.arming.has n = false then x
  else match x.state with
    | .disarmed => x
    | .armed => if y.arming = ⟨false, false, false⟩ then { y with state := .disarmed } else y
    | .tripped =>
      if y.arming ≠ ⟨false, false, false⟩ ∧ y.ack = y.arming ∧ alarms = [] then
        { y with state := .armed, ack := ⟨false, false, false⟩ }
      else y

/-- STARTING has returned to STOPPED with the converter ready and free, so that standalone service can begin at
once (R61, R73). -/
def StandaloneResumes (s t : State) : Prop :=
  s.seq.state = .starting ∧ t.seq.state = .stopped ∧ s.conv.power = .ready ∧ s.conv.conversion = none

/-- Between s and t the session of port n has ended, apart from what the port's own controller holds: nothing in
any block is kept for the port; the records are those of R24 to R26, with SUB_ORPHANED for each that becomes an
orphan and SUB_ENDED for each that becomes FREE, and their windows, watches and latest table entries follow; the
vote goes as for the last STOP, with halt cause SESSION_END (R35), the converter beginning standalone service or
going OFF when STARTING returns to STOPPED (R61, R73; that the port's spot entries go after that is read from
R165, log 13; REFIN at the level it holds, log 8); the alarm sets keep the ACTIVE records (R107); the trip lines
are those of R126, with TRIP_RELEASED raised for each that is released (cause SESSION_END, or EXIT for a record
that becomes FREE); and what is another port's, and the configuration, has not changed. -/
def LetGo (n : Port) (s t : State) : Prop :=
  t.seq.state = seqAfterEnd n s.seq ∧ t.seq.votes = s.seq.votes.drop n ∧
  t.seq.haltCause = (if s.seq.state = .running ∧ t.seq.state = .halting then some ⟨n, .sessionEnd⟩
    else s.seq.haltCause) ∧
  (if s.seq.state = .starting ∧ t.seq.state = .stopped then
    t.seq.frameTimer = none ∧ t.seq.syncTimer = none ∧ t.seq.starter = none ∧ t.seq.list = [] ∧
    t.seq.sync = (if s.seq.source = .external then .waiting else .off)
  else
    t.seq.frameTimer = s.seq.frameTimer ∧ t.seq.syncTimer = s.seq.syncTimer ∧
    t.seq.starter = s.seq.starter ∧ t.seq.sync = s.seq.sync ∧
    t.seq.list = s.seq.list.filter fun x => decide (x.origin = .planned ∨ x.slot ≤ s.seq.slot ∨
      ∃ e ∈ s.seq.spots, e.port ≠ n ∧ e.place = .listed x.slot)) ∧
  (∀ i : SubId,
    t.record i = recordAfterEnd n s.seq.state t.seq.state (s.record i) ∧
    t.window i = (if (t.record i).state = .active then s.window i else none) ∧
    t.watch i = (if (t.record i).state = .free then none
      else if (t.record i).state = .closing then (s.watch i).map fun w => { w with frozen := true }
      else s.watch i) ∧
    t.dlv.latest[i] =
      (if (s.record i).state ≠ .free ∧ (t.record i).state = .free then none else s.dlv.latest[i]) ∧
    (Live (s.record i) → (s.record i).owner = some n → (s.record i).persist = true →
      Offered s.seq.fn ⟨(s.record i).readers.drop n, .subOrphaned, BitVec.ofNat 8 i.val,
        BitVec.ofNat 16 n.val⟩ s t) ∧
    ((s.record i).state ≠ .free → (t.record i).state = .free →
      Offered s.seq.fn { subEndedOf i (s.record i) with
        audience := (audienceOf (s.record i)).drop n } s t)) ∧
  t.seq.spots.map unplaced = (s.seq.spots.filter fun e => decide (e.port ≠ n)).map unplaced ∧
  ((¬ StandaloneResumes s t ∨ s.seq.spots = [] →
      t.seq.spots = s.seq.spots.filter (fun e => decide (e.port ≠ n)) ∧
      t.isel.routed = s.isel.routed ∧ t.isel.refOk = s.isel.refOk ∧
      t.conv = if s.conv.power = .ready ∧ s.conv.conversion = none ∧ t.seq.state = .stopped ∧ t.seq.spots = []
        then { s.conv with power := .off } else s.conv) ∧
    (StandaloneResumes s t → ∀ e ∈ s.seq.spots.head?, e.place = .waiting →
      StandaloneStarts (everyPort.drop n) e.input s t ∧
      t.seq.spots = (standaloneBegun e.input s).seq.spots.filter fun e => decide (e.port ≠ n))) ∧
  (∀ p : ProfileNo, t.profile p =
    if s.seq.state ≠ .stopped ∧ t.seq.state = .stopped then activated (s.profile p)
    else if (s.profile p).staged.map StagedValue.port = some n then { s.profile p with staged := none }
    else s.profile p) ∧
  (∀ l : LineNo,
    t.alarms l = (s.alarms l).filter (fun i => decide ((t.record i).state = .active)) ∧
    t.line l = lineAfterEnd n (t.alarms l) (lineFound l s t) ∧
    (t.line l).arming = (s.line l).arming.drop n ∧
    ((lineFound l s t).arming.has n = true →
      Releasable (t.alarms l) (withoutPort n (lineFound l s t)) →
      Offered s.seq.fn ⟨everyPort.drop n, .tripReleased, BitVec.ofNat 8 l.val,
        BitVec.ofNat 16 (512 + n.val)⟩ s t) ∧
    (freedExits l s t ≠ [] → Releasable (t.alarms l) (s.line l) →
      ∃ i : SubId, i ∈ freedExits l s t ∧
        (s.seq.state = .stopped → releasingExit (s.alarms l) (freedExits l s t) = some i) ∧
        Offered s.seq.fn { releasedByExit l i with audience := everyPort.drop n } s t)) ∧
  PinsFollow s t ∧
  (∀ k : InputNo, (t.input k).mode = (s.input k).mode ∧ (t.input k).polarity = (s.input k).polarity) ∧
  t.isel.refin = s.isel.refin ∧ t.seq.slots = s.seq.slots ∧ t.seq.divider = s.seq.divider ∧
  t.seq.source = s.seq.source ∧ t.seq.syncTimeout = s.seq.syncTimeout ∧
  t.queues n = {} ∧
  (∀ m : Port, m ≠ n → t.port m = s.port m ∧ (t.queues m).samples = (s.queues m).samples ∧
    (t.queues m).sampleUnacked = (s.queues m).sampleUnacked ∧ (t.queues m).lost = (s.queues m).lost) ∧
  t.seq.fn = s.seq.fn ∧ t.resetting = s.resetting ∧ t.freeCount = s.freeCount ∧ t.pending = s.pending

/-- The last event offered to every ATTACHED port but n is the PORT_DETACHED of port n with this cause
(R166). -/
def DetachAnnounced (n : Port) (cause : BitVec 16) (s t : State) : Prop :=
  ∀ m : Port, m ≠ n → Attached m s → (s.port m).mask.system = true →
    ∃ q : List EventEntry, (t.queues m).events = offerEntry
      { code := .portDetached, subject := portByte n, frame := s.seq.fn, detail := cause } q

end Sys2Proof.Safety
end

