-- ==== Sys2Proof/Certificates/Slice0/Obligations.lean ====
section
/-! DEFINITION. The statements for the provers, `Obligations.<Name> : Prop`, as OBLIGATIONS.json lists them.
A host command's row is taken after its COMMAND_FRAME has put it into PENDING, or stands for frame and command
together: the model's choice (log 5), and what `answered` and `Answers` say of the port's own controller rests
on it. -/

open Sys2Proof Sys2Proof.Machine Sys2Proof.Safety

/-! ### The queue of commands -/

/-- A step takes the command at the front of the queue, with the queue's rest; on an empty queue the part
idles (log 2 and log 22: the model's choice). -/
def Obligations.StepTakesTheFront : Prop :=
  (∀ (c : Instr) (rest : List Instr) (s : State),
    step { s with pending := c :: rest } = exec c { s with pending := rest }) ∧
  ∀ s : State, s.pending = [] → step s = .next s

/-- No command stops the part, and no command touches the queue of commands (log 22). -/
def Obligations.EveryCommandIsTaken : Prop :=
  ∀ (c : Instr) (s : State), ∃ t, exec c s = .next t ∧ t.pending = s.pending

/-! ### Frames (R150 to R157, R172, R173) -/

/-- Code and payload of every well-formed host command spell it, by Table 10-4, and nothing else spells it. -/
def Obligations.CommandCodecAgrees : Prop :=
  (∀ i : Instr, i.isHostCommand = true → i.wellFormed = true →
    ∃ n tag code payload, encodeCommand i = some (n, tag, code, payload) ∧
      decodeCommand n tag code payload = .command i ∧ payload.length ≤ 124) ∧
  ∀ (n : Port) (tag code : Byte) (payload : List Byte) (i : Instr),
    decodeCommand n tag code payload = .command i →
      encodeCommand i = some (n, tag, code, payload) ∧ i.isHostCommand = true ∧ i.wellFormed = true

/-- R173: a code that Table 10-4 does not list is UNKNOWN_COMMAND whatever the length; a listed code with a
length that it does not accept is BAD_LENGTH; any other frame spells a command, whatever its payload bytes. -/
def Obligations.CodeAndLengthChecks : Prop :=
  ∀ (n : Port) (tag code : Byte) (payload : List Byte),
    match tableLength code.toNat with
    | none => decodeCommand n tag code payload = .unknown
    | some (least, most) =>
      if least ≤ payload.length ∧ payload.length ≤ most then
        ∃ i, decodeCommand n tag code payload = .command i
      else decodeCommand n tag code payload = .badLength

/-- R151: the bits of a transaction give a frame exactly when their whole bytes are the frame's code, tag,
length, payload of at most 124 bytes and CRC with FFH bytes behind it; up to seven bits behind the last whole
byte are discarded. Bytes stand on the line with the most significant bit first, and the bytes of a frame are
its code, tag, length and payload with their CRC behind them (Table 10-1). -/
def Obligations.WellFormedFrames : Prop :=
  (∀ bytes : List Byte, bitStream bytes = bytes.flatMap fun b =>
    [b.getLsbD 7, b.getLsbD 6, b.getLsbD 5, b.getLsbD 4, b.getLsbD 3, b.getLsbD 2, b.getLsbD 1, b.getLsbD 0]) ∧
  (∀ f : Frame, frameBytes f =
    withCrc (f.code :: f.tag :: BitVec.ofNat 8 f.payload.length :: f.payload)) ∧
  ∀ (bytes : List Byte) (tail : List Bool), tail.length < 8 →
    gather (bitStream bytes ++ tail) = bytes ∧
    ∀ f : Frame, parseFrame bytes = some f ↔
      f.payload.length ≤ 124 ∧ ∃ k : Nat, bytes = frameBytes f ++ List.replicate k 0xFF

/-- R152: the check value of the nine bytes 31H to 39H, the register's start, its two moves, and the order in
which bytes and bits enter it; and, what follows from them, the CRC of any bytes with their CRC behind them,
high byte first, is 0. -/
def Obligations.CrcRegister : Prop :=
  crc [0x31, 0x32, 0x33, 0x34, 0x35, 0x36, 0x37, 0x38, 0x39] = 0x29B1 ∧
  crc [] = 0xFFFF ∧
  (∀ (reg : BitVec 16) (b : Bool),
    crcBit reg b = if reg.msb = b then reg <<< 1 else (reg <<< 1) ^^^ 0x1021) ∧
  (∀ (l : List Byte) (b : Byte), crc (l ++ [b]) =
    [b.getLsbD 7, b.getLsbD 6, b.getLsbD 5, b.getLsbD 4, b.getLsbD 3, b.getLsbD 2, b.getLsbD 1,
      b.getLsbD 0].foldl crcBit (crc l)) ∧
  (∀ l : List Byte, withCrc l = l ++ twoBytes (crc l)) ∧
  ∀ l : List Byte, crc (withCrc l) = 0

/-- R150 and R172: when SSn falls the port controller takes the copy of the holder that it will shift out: nothing
for EMPTY, the PENDING frame with the pending tag, or the held response, with the status byte of Table 10-7 and
OVERRUN in its bit 7 when the flag is set; MISOn shows the first bit of the copy, or of FFH, and is held so until
the frame is taken (log 19); nothing else changes. A COMMAND_FRAME while SSn is high is taken as if SSn had fallen
right before it: the model's choice (log 15). -/
def Obligations.TransactionStartCopies : Prop :=
  ∀ (n : Port) (s : State), s.resetting = none → (s.port n).transaction = .idle →
    let head (st : Status) : Byte := if (s.port n).overrun then statusByte st ||| 0x80 else statusByte st
    let copy : List Byte :=
      match (s.port n).holder with
      | .empty => []
      | .pending => withCrc [head .pending, (s.port n).pendingTag, 0]
      | .ready r => withCrc ([head r.status, r.tag, BitVec.ofNat 8 r.payload.length] ++ r.payload)
    let fallen : State := withPort n { s.port n with
      transaction := .active copy (decide ((s.port n).holder = .pending))
      miso := .driven (firstBit copy) } s
    exec (.transactionStart n) s = .next fallen ∧
    ∀ mosi : List Bool, exec (.commandFrame n mosi) s = exec (.commandFrame n mosi) fallen

/-- R153 and R157: a well-formed frame other than a FETCH, in a transaction begun while the holder was not
PENDING, is put into PENDING with its tag, the overrun flag cleared; it is answered at once with the first of
UNKNOWN_COMMAND, BAD_LENGTH, NOT_ATTACHED and ROLE that applies, and else left in execution for its block.
That a refusal is READY within this step is the model's choice (log 6). -/
def Obligations.CommandFrameDispatch : Prop :=
  ∀ (n : Port) (mosi : List Bool) (copy : List Byte) (f : Frame) (s : State),
    InTransaction n copy false s → parseFrame (gather mosi) = some f →
    ¬ (f.code = 0 ∧ f.payload = []) →
    let p := restartedPort (closedPort copy mosi.length (s.port n))
    let refuse (st : Status) : State :=
      withPort n { p with overrun := false, pendingTag := f.tag, inExec := none,
                          holder := .ready ⟨st, f.tag, []⟩ } s
    exec (.commandFrame n mosi) s = .next
      (match decodeCommand n f.tag f.code f.payload with
      | .unknown => refuse .unknownCommand
      | .badLength => refuse .badLength
      | .command c =>
        if (s.port n).session = .detached ∧ isAttach c = false then refuse .notAttached
        else if needsControl c = true ∧ (s.port n).role = .monitor then refuse .role
        else withPort n { p with overrun := false, pendingTag := f.tag, inExec := some c,
                                 holder := .pending } s)

/-- R156 and R163: a well-formed FETCH, whatever the holder state, changes nothing but the session timer of an
ATTACHED port, which restarts; so does the FETCH row taken by itself outside a transaction. -/
def Obligations.FetchKeepsTheHolder : Prop :=
  (∀ (n : Port) (mosi : List Bool) (copy : List Byte) (b : Bool) (f : Frame) (s : State),
    InTransaction n copy b s → parseFrame (gather mosi) = some f → f.code = 0 → f.payload = [] →
    exec (.commandFrame n mosi) s =
      .next (withPort n (restartedPort (closedPort copy mosi.length (s.port n))) s)) ∧
  ∀ (n : Port) (tag : Byte) (s : State), s.resetting = none →
    exec (.fetch n tag) s = .next (withPort n (restartedPort (s.port n)) s)

/-- R151 and R155: the frames that are not executed. A transaction without a complete byte leaves the holder
and the timer; a malformed frame makes the holder READY with BAD_FRAME, tag 0, and clears the overrun flag,
or, when the holder was PENDING at the fall of SSn, only sets the flag; so is a well-formed frame other than
a FETCH discarded there, the session timer restarting. -/
def Obligations.FramesNotExecuted : Prop :=
  ∀ (n : Port) (mosi : List Bool) (copy : List Byte) (b : Bool) (s : State), InTransaction n copy b s →
    let p := closedPort copy mosi.length (s.port n)
    (mosi.length < 8 → exec (.commandFrame n mosi) s = .next (withPort n p s)) ∧
    (8 ≤ mosi.length → parseFrame (gather mosi) = none →
      exec (.commandFrame n mosi) s = .next (withPort n
        (if b then { p with overrun := true }
         else { p with holder := .ready ⟨.badFrame, 0, []⟩, overrun := false, inExec := none }) s)) ∧
    ∀ f : Frame, b = true → parseFrame (gather mosi) = some f → ¬ (f.code = 0 ∧ f.payload = []) →
      exec (.commandFrame n mosi) s = .next (withPort n { restartedPort p with overrun := true } s)

/-- R157, steps 3 and 4, for every command but FETCH: on a DETACHED port anything but ATTACH is answered
NOT_ATTACHED, on an ATTACHED MONITOR port a command that needs CONTROL is answered ROLE, and no block is
told. -/
def Obligations.PortRefusals : Prop :=
  ∀ (n : Port) (tag code : Byte) (payload : List Byte) (c : Instr) (s : State),
    encodeCommand c = some (n, tag, code, payload) → code ≠ 0 → c.wellFormed = true → Free n c s →
    ((s.port n).session = .detached → isAttach c = false →
      exec c s = .next (answered n tag .notAttached [] s)) ∧
    ((s.port n).session = .attached → needsControl c = true → (s.port n).role = .monitor →
      exec c s = .next (answered n tag .role [] s))

/-! ### Sessions (R160 to R168) -/

/-- R160 and R161: ATTACH on a DETACHED port begins a session with the label and timeout given and the default
port settings, answers the identity, the port, its role, the reset cause and the capacities, and the reset
cause becomes NONE. A force byte other than 0 or 1 is BAD_ARGUMENT; on an ATTACHED port force 0 is answered
ALREADY. -/
def Obligations.AttachOpensASession : Prop :=
  ∀ (n : Port) (tag : Byte) (label : BitVec 32) (timeout force : Byte) (s : State),
    Free n (.attach n tag label timeout force) s →
    (2 ≤ force.toNat →
      exec (.attach n tag label timeout force) s = .next (answered n tag .badArgument [] s)) ∧
    ((s.port n).session = .attached → force = 0 →
      exec (.attach n tag label timeout force) s = .next (answered n tag .already [] s)) ∧
    ((s.port n).session = .detached → force.toNat < 2 → s.queues n = {} →
      let payload : List Byte := [0x16, 0x40, 0x01, BitVec.ofNat 8 n.val, (s.port n).role.value,
        (s.port n).cause.value, 16, 32, 4, 8, 64, 16, 8, 4, 124]
      exec (.attach n tag label timeout force) s =
        .next (withPort n { answeredPort (s.port n) tag .ok payload with
          session := .attached, label := label, timeout := timeout,
          timer := if timeout = 0 then none else some timeout.toNat,
          policy := .keepOldest, watermark := 1, mask := ⟨true, true, true, true, true, true⟩,
          cause := .none } s))

/-- R14, R24 to R26, R35, R126 and R160 to R166: a session end, by DETACH (answered OK with the port DETACHED),
by the expiry of a running session timer (holder EMPTY) or by ATTACH with force (a new session begun at once), lets
go whatever the port held in every block with the SUB_ORPHANED and SUB_ENDED events of its records, records the
halt cause when its vote was the last, takes the port out of every trip line and releases a line whose condition
then holds, keeps every other port's controller and sample queue, and is announced last by PORT_DETACHED with its
cause. The expiry clause covers a PENDING holder, which R167 rules out: the model's choice (log 14); that the vote
goes before the spot entries is read from R165 (log 13). When STARTING returns to STOPPED, standalone service
begins with REFIN at the level held: the model's choice (log 8). -/
def Obligations.SessionEndsWhole : Prop :=
  ∀ (n : Port) (tag : Byte) (s : State), TripLaw s → AlarmLaw s → WindowLaw s → Attached n s →
    let ended (p : PortCtl) : PortCtl := { p with
      session := .detached, timer := none, label := 0, timeout := 0, overrun := false, inExec := none }
    (Free n (.detach n tag) s →
      ∃ t, exec (.detach n tag) s = .next t ∧ LetGo n s t ∧ DetachAnnounced n 0 s t ∧
        t.port n = { ended (answeredPort (s.port n) tag .ok []) with
          holder := .ready ⟨.ok, tag, []⟩ }) ∧
    (s.resetting = none → (s.port n).timer ≠ none →
      ∃ t, exec (.sessionTimerExpiry n) s = .next t ∧ LetGo n s t ∧ DetachAnnounced n 1 s t ∧
        t.port n = { ended (s.port n) with holder := .empty }) ∧
    ∀ (label : BitVec 32) (timeout : Byte), Free n (.attach n tag label timeout 1) s →
      ∃ t, exec (.attach n tag label timeout 1) s = .next t ∧ LetGo n s t ∧ DetachAnnounced n 2 s t ∧
        t.port n = { answeredPort (s.port n) tag .ok [0x16, 0x40, 0x01, BitVec.ofNat 8 n.val,
            (s.port n).role.value, (s.port n).cause.value, 16, 32, 4, 8, 64, 16, 8, 4, 124] with
          session := .attached, label := label, timeout := timeout,
          timer := if timeout = 0 then none else some timeout.toNat,
          policy := .keepOldest, watermark := 1, mask := ⟨true, true, true, true, true, true⟩,
          cause := .none, overrun := false }

/-- R168: SET_PORT with values in range replaces the four settings together, restarts or stops the session
timer and judges ATTNn again; out of range it is BAD_ARGUMENT and nothing changes. -/
def Obligations.SetPortReplacesSettings : Prop :=
  ∀ (n : Port) (tag policy watermark mask timeout : Byte) (s : State),
    Free n (.setPort n tag policy watermark mask timeout) s → Attached n s →
    if policy.toNat < 2 ∧ 1 ≤ watermark.toNat ∧ watermark.toNat ≤ 64 ∧ mask.toNat < 64 then
      ∃ t, exec (.setPort n tag policy watermark mask timeout) s = .next t ∧
        t = { s with hpc := t.hpc, dlv := { s.dlv with queues := put s.dlv.queues n { s.queues n with
          attn := decide (0 < (s.queues n).events.length ∨
            watermark.toNat ≤ (s.queues n).samples.length) } } } ∧
        Answers n tag .ok [policy, watermark, mask, timeout]
          (withPort n { s.port n with
            policy := if policy = 0 then .keepOldest else .keepNewest,
            watermark := watermark.toNat,
            mask := ⟨mask.getLsbD 0, mask.getLsbD 1, mask.getLsbD 2, mask.getLsbD 3, mask.getLsbD 4,
              mask.getLsbD 5⟩,
            timeout := timeout,
            timer := if timeout = 0 then none else some timeout.toNat } s) t
    else exec (.setPort n tag policy watermark mask timeout) s = .next (answered n tag .badArgument [] s)

/-- R169, R174 and Table 10-5: READ_STATUS answers the 35 bytes of the state, with the values of Table 10-3, and
changes nothing but the port's own answer. All parts are read at one moment: the model's choice (log 7). -/
def Obligations.ReadStatusAnswers : Prop :=
  FieldValues ∧
  ∀ (n : Port) (tag : Byte) (s : State), Free n (.readStatus n tag) s → Attached n s →
    exec (.readStatus n tag) s = .next (answered n tag .ok
      ([s.seq.state.value] ++ threeBytes s.seq.fn ++
        [byteOf s.seq.slots, byteOf s.seq.divider.value, s.seq.source.value, s.seq.sync.value,
          byteOf s.seq.spots.length, s.conv.power.value, s.isel.refOk.value,
          byteOf (countIds fun i => decide ((s.record i).state = .free)),
          byteOf (s.queues n).samples.length, byteOf (s.queues n).sampleUnacked,
          byteOf (s.queues n).lost, byteOf (s.queues n).events.length,
          byteOf (s.queues n).eventUnacked] ++
        [(s.port 0).session.value, (s.port 0).role.value] ++ fourBytes (s.port 0).label ++
        [(s.port 1).session.value, (s.port 1).role.value] ++ fourBytes (s.port 1).label ++
        [(s.port 2).session.value, (s.port 2).role.value] ++ fourBytes (s.port 2).label) s)

/-! ### Subscriptions (R3 to R19) -/

/-- R3, R101 and R175: the parameter bytes of CREATE and MODIFY are accepted exactly when every checked field
lies in the range of Table 1-3, and the stored set then holds their values. -/
def Obligations.ParameterSetCheck : Prop :=
  ∀ b : ParamBytes,
    let good : Prop :=
      b.input.toNat < 16 ∧ b.period.toNat < 7 ∧ b.phase.toNat < 2 ^ b.period.toNat ∧
      b.average.toNat ∈ [1, 2, 4, 8, 16] ∧ b.profile.toNat < 8 ∧ b.watchFlags.toNat < 4 ∧
      (b.watchFlags.getLsbD 0 = true →
        b.low.toInt < b.high.toInt ∧ (b.hysteresis.toNat : Int) ≤ b.high.toInt - b.low.toInt ∧
        1 ≤ b.debounce.toNat ∧ b.debounce.toNat ≤ 8 ∧
        (b.watchFlags.getLsbD 1 = true → b.line.toNat < 4))
    ((∃ p, paramsOf b = some p) ↔ good) ∧
    ∀ p, paramsOf b = some p →
      p.input.val = b.input.toNat ∧ p.period.val = b.period.toNat ∧ p.phase = b.phase.toNat ∧
      p.average.count = b.average.toNat ∧ p.profile.val = b.profile.toNat ∧
      (b.watchFlags.getLsbD 0 = false → p.watch = none) ∧
      (b.watchFlags.getLsbD 0 = true → ∃ w, p.watch = some w ∧
        w.low = b.low ∧ w.high = b.high ∧ w.hysteresis = b.hysteresis ∧
        w.debounce = b.debounce.toNat ∧
        w.trip.map Fin.val = if b.watchFlags.getLsbD 1 then some b.line.toNat else none)

/-- R8 and R9: CREATE checks the parameter set and the options, a FREE record, the input's mode and the
admission test in this order; admitted, it takes the lowest FREE id, stages the set for the calling port,
adds the claim to the plan table and the input to the use counts, and raises no event. -/
def Obligations.CreateAdmitsInOrder : Prop :=
  ∀ (n : Port) (tag : Byte) (b : ParamBytes) (options : Byte) (s : State),
    Free n (.create n tag b options) s → Control n s →
    let refused (st : Status) : Prop :=
      exec (.create n tag b options) s = .next (answered n tag st [] s)
    ((paramsOf b = none ∨ 4 ≤ options.toNat) → refused .badArgument) ∧
    ∀ p, paramsOf b = some p → options.toNat < 4 →
      ((∀ i, (s.record i).state ≠ .free) → refused .noEntry) ∧
      ∀ i : SubId, (s.record i).state = .free → (∀ j : SubId, j < i → (s.record j).state ≠ .free) →
        ((s.input p.input).mode ≠ .analog → refused .inputMode) ∧
        ((s.input p.input).mode = .analog → ¬ Admitted s none (some p) → refused .noCapacity) ∧
        ((s.input p.input).mode = .analog → Admitted s none (some p) →
          ∃ t, exec (.create n tag b options) s = .next t ∧
            t = { s with isel := { s.isel with inputs := t.isel.inputs }, subt := t.subt,
                         hpc := t.hpc } ∧
            Answers n tag .ok [BitVec.ofNat 8 i.val] s t ∧
            t.record i = {
              state := .staged, owner := some n,
              readers := if options.getLsbD 1 then ⟨n = 0, n = 1, n = 2⟩ else ⟨false, false, false⟩,
              persist := options.getLsbD 0, current := none, staged := some p, sequence := 0,
              generation := 0 } ∧
            OtherRecordsKept i s t ∧ PlanMoves none (some p) s t ∧
            UseFollows (s.record i) (t.record i) s t)

/-- R10 and R11: MODIFY checks id and parameter set, the record, the owner, the input's mode and the admission
test with the record's own reservation taken away, in this order; admitted, the new set becomes the staged
change, and plan table and use counts follow. -/
def Obligations.ModifyMovesTheReservation : Prop :=
  ∀ (n : Port) (tag id : Byte) (b : ParamBytes) (s : State),
    Free n (.modify n tag id b) s → Control n s → PlanLaw s →
    let refused (st : Status) : Prop :=
      exec (.modify n tag id b) s = .next (answered n tag st [] s)
    ((32 ≤ id.toNat ∨ paramsOf b = none) → refused .badArgument) ∧
    ∀ (i : SubId) (p : Params), id.toNat = i.val → paramsOf b = some p →
      let r := s.record i
      (¬ Live r → refused .notFound) ∧
      (Live r → r.owner ≠ some n → refused .notOwner) ∧
      (Live r → r.owner = some n → (s.input p.input).mode ≠ .analog → refused .inputMode) ∧
      (Live r → r.owner = some n → (s.input p.input).mode = .analog →
        ¬ Admitted s r.reserved (some p) → refused .noCapacity) ∧
      (Live r → r.owner = some n → (s.input p.input).mode = .analog → Admitted s r.reserved (some p) →
        ∃ t, exec (.modify n tag id b) s = .next t ∧
          t = { s with isel := { s.isel with inputs := t.isel.inputs }, subt := t.subt,
                       hpc := t.hpc } ∧
          Answers n tag .ok [] s t ∧ t.record i = { r with staged := some p } ∧
          OtherRecordsKept i s t ∧ PlanMoves r.reserved (some p) s t ∧
          UseFollows r { r with staged := some p } s t)

/-- R12 to R14: RELEASE checks id, record and owner in this order. A STAGED record, and an ACTIVE one while the
sequencer is STOPPED, becomes FREE at once with SUB_ENDED to its owner and readers, its window, watch and latest
table entry dropped, and an EXIT report to the line of a watch that was in alarm (R112, R129); an ACTIVE one
otherwise becomes CLOSING, its window dropped and its watch frozen. The reservation leaves the plan table at once. -/
def Obligations.ReleaseLetsGo : Prop :=
  ∀ (n : Port) (tag id : Byte) (s : State), Free n (.release n tag id) s → Control n s →
    let refused (st : Status) : Prop := exec (.release n tag id) s = .next (answered n tag st [] s)
    (32 ≤ id.toNat → refused .badArgument) ∧
    ∀ i : SubId, id.toNat = i.val →
      let r := s.record i
      let audience : PortSet := ⟨n = 0 || r.readers.p0, n = 1 || r.readers.p1, n = 2 || r.readers.p2⟩
      (¬ Live r → refused .notFound) ∧
      (Live r → r.owner ≠ some n → refused .notOwner) ∧
      (Live r → r.owner = some n →
        ((r.state = .staged ∨ s.seq.state = .stopped) →
          let gone : State := recordMoved i {} s
          let freed : State := afterEvents [⟨audience, .subEnded, BitVec.ofNat 8 i.val, r.sequence⟩] { gone with
            asu := { s.asu with windows := put s.asu.windows i none }
            wtu := { watches := put s.wtu.watches i none
                     alarms := tabulate fun l => (s.alarms l).filter (· != i) }
            dlv := { s.dlv with latest := put s.dlv.latest i none } }
          exec (.release n tag id) s = .next (answered n tag .ok [0]
            (match (s.watch i).filter (fun w => w.state.alarm) with
            | none => freed
            | some w =>
              match w.part.trip with
              | none => freed
              | some l => exitReport l i freed))) ∧
        (r.state = .active → s.seq.state ≠ .stopped →
          ∃ t, exec (.release n tag id) s = .next t ∧
            t = { s with
              isel := { s.isel with inputs := t.isel.inputs }, subt := t.subt, hpc := t.hpc,
              asu := { s.asu with windows := put s.asu.windows i none }, wtu := t.wtu } ∧
            Answers n tag .ok [3] s t ∧ t.record i = { r with state := .closing, staged := none } ∧
            OtherRecordsKept i s t ∧ PlanMoves r.reserved none s t ∧
            UseFollows r { r with state := .closing, staged := none } s t ∧
            t.watch i = (s.watch i).map (fun w => { w with frozen := true }) ∧
            (∀ j : SubId, j ≠ i → t.watch j = s.watch j) ∧
            (s.watch i ≠ none → ∀ l : LineNo, t.alarms l = (s.alarms l).filter (· != i))))

/-- R15 and R16: JOIN adds the calling port to the reader set of a STAGED or ACTIVE record, LEAVE takes a
member out of it, and nothing else changes; their refusals stand in the order given. -/
def Obligations.JoinAndLeave : Prop :=
  ∀ (n : Port) (tag id : Byte) (s : State), Attached n s →
    (Free n (.join n tag id) s →
      (32 ≤ id.toNat → exec (.join n tag id) s = .next (answered n tag .badArgument [] s)) ∧
      ∀ i : SubId, id.toNat = i.val →
        let r := s.record i
        exec (.join n tag id) s = .next (
          if Live r then answered n tag .ok [] (withRecord i { r with
            readers := ⟨n = 0 || r.readers.p0, n = 1 || r.readers.p1, n = 2 || r.readers.p2⟩ } s)
          else answered n tag .notFound [] s)) ∧
    (Free n (.leave n tag id) s →
      (32 ≤ id.toNat → exec (.leave n tag id) s = .next (answered n tag .badArgument [] s)) ∧
      ∀ i : SubId, id.toNat = i.val →
        let r := s.record i
        exec (.leave n tag id) s = .next (
          if ¬ Live r then answered n tag .notFound [] s
          else if r.readers.has n = false then answered n tag .notMember [] s
          else answered n tag .ok [] (withRecord i { r with
            readers := ⟨n ≠ 0 && r.readers.p0, n ≠ 1 && r.readers.p1, n ≠ 2 && r.readers.p2⟩ } s)))

/-- R17: ADOPT makes the calling port the owner of an orphan, keeps everything else of the record, and raises
SUB_ADOPTED to the new owner and the readers; its refusals stand in the order given. -/
def Obligations.AdoptTakesAnOrphan : Prop :=
  ∀ (n : Port) (tag id : Byte) (s : State), Free n (.adopt n tag id) s → Control n s →
    (32 ≤ id.toNat → exec (.adopt n tag id) s = .next (answered n tag .badArgument [] s)) ∧
    ∀ i : SubId, id.toNat = i.val →
      let r := s.record i
      let audience : PortSet := ⟨n = 0 || r.readers.p0, n = 1 || r.readers.p1, n = 2 || r.readers.p2⟩
      exec (.adopt n tag id) s = .next (
        if ¬ Live r then answered n tag .notFound [] s
        else if r.owner ≠ none then answered n tag .notOrphan [] s
        else answered n tag .ok [] (afterEvents
          [⟨audience, .subAdopted, BitVec.ofNat 8 i.val, BitVec.ofNat 16 n.val⟩]
          (withRecord i { r with owner := some n } s)))

/-- R18, R19, R174 and R175: READ_SUB answers the fields of a record and READ_PLAN a row of the plan table, to any
ATTACHED port, and change nothing but the port's own answer. -/
def Obligations.SubscriptionReads : Prop :=
  FieldValues ∧
  ∀ (n : Port) (tag arg : Byte) (s : State), Attached n s →
    (Free n (.readSub n tag arg) s →
      (32 ≤ arg.toNat → exec (.readSub n tag arg) s = .next (answered n tag .badArgument [] s)) ∧
      ∀ i : SubId, arg.toNat = i.val →
        let r := s.record i
        exec (.readSub n tag arg) s = .next (answered n tag .ok
          ([r.state.value, portOptByte r.owner, r.readers.value,
            byteOf ((if r.current = none then 0 else 1) + (if r.staged = none then 0 else 2)
              + (if r.persist then 4 else 0))]
            ++ paramRow r.current ++ paramRow r.staged ++ twoBytes r.sequence
            ++ [r.generation]) s)) ∧
    (Free n (.readPlan n tag arg) s →
      (64 ≤ arg.toNat → exec (.readPlan n tag arg) s = .next (answered n tag .badArgument [] s)) ∧
      ∀ x : Residue, arg.toNat = x.val →
        let l := (List.finRange 16).filter fun k : InputNo => decide (0 < s.subt.plan[x][k])
        exec (.readPlan n tag arg) s = .next (answered n tag .ok
          ([byteOf s.seq.slots, byteOf l.length]
            ++ l.flatMap fun k => [byteOf k.val, byteOf s.subt.plan[x][k]]) s))

/-! ### The sequencer (R28 to R49) -/

/-- R29: RUN adds the calling port to the vote set and answers the state it leaves: STARTING from STOPPED, with
the starting voter, the halt cause cleared and an OFF converter powered up; no other change in STARTING or
RUNNING; RUNNING from HALTING. That RUN with a READY idle converter takes the first boundary at once is
deduced from R31 (log 18). -/
def Obligations.RunVotes : Prop :=
  ∀ (n : Port) (tag : Byte) (s : State), Free n (.run n tag) s → Control n s →
    let votes : PortSet := ⟨n = 0 || s.seq.votes.p0, n = 1 || s.seq.votes.p1, n = 2 || s.seq.votes.p2⟩
    let started : Seq := { s.seq with
      votes := votes, state := .starting, starter := some n, haltCause := none,
      sync := if s.seq.source = .external then .waiting else .off }
    (s.seq.state = .starting →
      exec (.run n tag) s = .next (answered n tag .ok [1] { s with seq := { s.seq with votes := votes } })) ∧
    (s.seq.state = .running →
      exec (.run n tag) s = .next (answered n tag .ok [2] { s with seq := { s.seq with votes := votes } })) ∧
    (s.seq.state = .halting →
      exec (.run n tag) s = .next (answered n tag .ok [2]
        { s with seq := { s.seq with votes := votes, state := .running, haltCause := none } })) ∧
    (s.seq.state = .stopped → ¬ (s.conv.power = .ready ∧ s.conv.conversion = none) →
      exec (.run n tag) s = .next (answered n tag .ok [1] { s with
        seq := started
        conv := if s.conv.power = .off then { s.conv with power := .warming, warmUp := some 40 }
          else s.conv })) ∧
    (s.seq.state = .stopped → s.conv.power = .ready → s.conv.conversion = none →
      if s.seq.source = .external then
        exec (.run n tag) s = .next (answered n tag .ok [1] { s with
          seq := { started with syncTimer := some (64 * s.seq.syncTimeout) } })
      else
        ∃ t, exec (.run n tag) s = .next (answered n tag .ok [2] t) ∧ t.seq.state = .running ∧
          Boundary { s with seq := started } t)

/-- R30: STOP of a port without a vote is NOT_VOTER. Else the port leaves the vote set; while another vote stands
nothing more changes; the last vote moves RUNNING to HALTING with the halt cause, and STARTING to STOPPED at
once, as R34 states. Standalone service that begins then checks REFIN at the level held: the model's choice (log
8). -/
def Obligations.StopWithdrawsTheVote : Prop :=
  ∀ (n : Port) (tag : Byte) (s : State), Free n (.stop n tag) s → Control n s →
    let votes : PortSet := ⟨n ≠ 0 && s.seq.votes.p0, n ≠ 1 && s.seq.votes.p1, n ≠ 2 && s.seq.votes.p2⟩
    (s.seq.votes.has n = false → exec (.stop n tag) s = .next (answered n tag .notVoter [] s)) ∧
    (s.seq.votes.has n = true → votes ≠ ⟨false, false, false⟩ →
      exec (.stop n tag) s = .next (answered n tag .ok [s.seq.state.value]
        { s with seq := { s.seq with votes := votes } })) ∧
    (s.seq.votes.has n = true → votes = ⟨false, false, false⟩ → s.seq.state = .running →
      exec (.stop n tag) s = .next (answered n tag .ok [3]
        { s with seq := { s.seq with votes := votes, state := .halting, haltCause := some ⟨n, .stop⟩ } })) ∧
    (s.seq.votes.has n = true → votes = ⟨false, false, false⟩ → s.seq.state = .starting →
      ∃ t, exec (.stop n tag) s = .next t ∧ EntersStopped s t ∧ t.seq.votes = votes ∧
        t.seq.haltCause = s.seq.haltCause ∧ Answers n tag .ok [0] s t)

/-- R48: CONFIG_TIMING checks its values, the sequencer state and the plan table against the new S in this
order; admitted, it sets all four settings together and the sync state, and changes nothing else. -/
def Obligations.ConfigTimingSetsAllFour : Prop :=
  ∀ (n : Port) (tag slots divider source timeout : Byte) (s : State),
    Free n (.configTiming n tag slots divider source timeout) s → Control n s →
    let refused (st : Status) : Prop :=
      exec (.configTiming n tag slots divider source timeout) s = .next (answered n tag st [] s)
    let inRange : Prop := 1 ≤ slots.toNat ∧ slots.toNat ≤ 16 ∧ divider.toNat ∈ [1, 2, 4, 8] ∧
      source.toNat < 2 ∧ 1 ≤ timeout.toNat
    let fits : Prop := ∀ x : Residue, inputsDemanded (fun k => s.subt.plan[x][k]) ≤ slots.toNat
    (¬ inRange → refused .badArgument) ∧
    (inRange → s.seq.state ≠ .stopped → refused .busyState) ∧
    (inRange → s.seq.state = .stopped → ¬ fits → refused .noCapacity) ∧
    (inRange → s.seq.state = .stopped → fits →
      ∃ d : Divider, d.value = divider.toNat ∧
      exec (.configTiming n tag slots divider source timeout) s = .next (answered n tag .ok []
        { s with seq := { s.seq with
          slots := slots.toNat, divider := d, syncTimeout := timeout.toNat,
          source := if source = 1 then .external else .internal,
          sync := if source = 1 then .waiting else .off } }))

/-- R33, R38: the expiry of a running frame timer is a frame boundary while RUNNING, with the frame timer
started for S + 1 slot times; while HALTING it ends the last frame: no frame is begun, the sequencer enters
STOPPED and SEQ_STOPPED is raised with the halt cause; that it is raised last is the model's choice (log 12). Spot
entries assigned to a list entry not begun, which R42 rules out here, return to WAITING (log 16), and standalone
service checks REFIN at the level held (log 8). -/
def Obligations.FrameTimerExpiry : Prop :=
  ∀ s : State, s.resetting = none → s.seq.frameTimer ≠ none → s.seq.sync ≠ .locked →
    (s.seq.state = .running →
      ∃ t, exec .frameTimerExpiry s = .next t ∧ Boundary (spotsReturned s) t ∧ t.seq.state = .running ∧
        t.seq.sync = s.seq.sync ∧ t.seq.frameTimer = some (s.seq.slots + 1) ∧
        t.seq.syncTimer = none) ∧
    ∀ h : HaltCause, s.seq.state = .halting → s.seq.haltCause = some h →
      ∃ t, exec .frameTimerExpiry s = .next t ∧ EntersStopped (spotsReturned s) t ∧ t.seq.haltCause = none ∧
        t.seq.votes = s.seq.votes ∧ t.hpc = s.hpc ∧
        LastEvent s.seq.fn ⟨everyPort, .seqStopped, BitVec.ofNat 8 h.port.val,
          if h.kind = .stop then 0 else 1⟩ s t

/-- R32, R34, R39, R46: a SYNC edge is ignored with an INTERNAL source, while STOPPED, and in STARTING before
the converter is READY and idle; there the first edge after it is the first boundary, with SEQ_STARTED. While
frames run an edge that is not early is a boundary (RUNNING) or the end of the last frame (HALTING); the sync
timer restarts, the frame timer is stopped, and an edge in FALLBACK raises SYNC_REGAINED with detail 0. That
SEQ_STARTED and SEQ_STOPPED are raised last is the model's choice (log 12). Spot entries still assigned return to
WAITING (log 16), and standalone service checks REFIN at the level held (log 8). -/
def Obligations.SyncEdge : Prop :=
  ∀ s : State, s.resetting = none →
    let begun : Prop := ∀ x ∈ s.seq.list, x.slot ≤ s.seq.slot
    let regained : Announced := ⟨everyPort, .syncRegained, 0, 0⟩
    let timed (t : State) : Prop := t.seq.state = .running ∧ t.seq.sync = .locked ∧
      t.seq.frameTimer = none ∧ t.seq.syncTimer = some (64 * s.seq.syncTimeout)
    ((s.seq.source = .internal ∨ s.seq.state = .stopped ∨
        (s.seq.state = .starting ∧ (s.conv.power ≠ .ready ∨ s.conv.conversion ≠ none))) →
      exec .syncEdge s = .next s) ∧
    (s.seq.source = .external → s.seq.state = .starting → s.seq.sync = .waiting →
      s.conv.power = .ready → s.conv.conversion = none →
      ∃ t, exec .syncEdge s = .next t ∧ Boundary s t ∧ timed t ∧
        ∀ v, s.seq.starter = some v →
          LastEvent t.seq.fn ⟨everyPort, .seqStarted, BitVec.ofNat 8 v.val,
            BitVec.ofNat 16 (s.seq.slots % 256)⟩ s t) ∧
    (s.seq.source = .external → s.seq.state = .running →
      (s.seq.sync = .locked ∨ s.seq.sync = .fallback) → begun →
      ∃ t, exec .syncEdge s = .next t ∧ Boundary (spotsReturned s) t ∧ timed t ∧
        (s.seq.sync = .fallback → Offered s.seq.fn regained s t)) ∧
    ∀ h : HaltCause, s.seq.source = .external → s.seq.state = .halting → s.seq.haltCause = some h →
      (s.seq.sync = .locked ∨ s.seq.sync = .fallback) → begun →
      ∃ t, exec .syncEdge s = .next t ∧ EntersStopped (spotsReturned s) t ∧ t.seq.haltCause = none ∧
        t.seq.votes = s.seq.votes ∧ t.hpc = s.hpc ∧
        (s.seq.sync = .fallback → Offered s.seq.fn regained s t) ∧
        LastEvent s.seq.fn ⟨everyPort, .seqStopped, BitVec.ofNat 8 h.port.val,
          if h.kind = .stop then 0 else 1⟩ s t

/-- R33, R42, R43, R71, R83 and R86: an early edge in a RUNNING frame or in the last frame of HALTING. Every planned
entry not begun is missed for its due set, in ascending id order, the spot entries of entries not begun return
to WAITING in their places, and the event carries the number of planned entries missed; then the next frame
begins, or the sequencer enters STOPPED with SEQ_STOPPED. A missed due frame of a window is counted as a miss;
the last one of a window closes it with its record under the number of the cut frame. The conversion in progress
goes on, and the laws of the trip lines hold at the cut when they held before it. That the event follows the
records and events of the report, and that SEQ_STOPPED is raised last, is the model's choice (log 12).
Standalone service at the entry to STOPPED checks REFIN at the level held (log 8). -/
def Obligations.EarlyEdgeCutsTheFrame : Prop :=
  ∀ s : State, s.resetting = none → s.seq.source = .external →
    (s.seq.state = .running ∨ s.seq.state = .halting) →
    (s.seq.sync = .locked ∨ s.seq.sync = .fallback) → (∃ x ∈ s.seq.list, s.seq.slot < x.slot) →
    let missed := s.seq.list.filter fun x => decide (s.seq.slot < x.slot) && decide (x.origin = .planned)
    let dues := missed.flatMap ListEntry.due
    let early : Announced := ⟨everyPort, if s.seq.sync = .locked then .syncEarly else .syncRegained, 0,
      BitVec.ofNat 16 (missed.length % 256)⟩
    let timed : Seq := if s.seq.sync = .locked then { s.seq with cut := true } else { s.seq with
      cut := true, sync := .locked, frameTimer := none, syncTimer := some (64 * s.seq.syncTimeout) }
    ∃ l : List Due, l.Perm dues ∧ Ascending l ∧
      let reported : State := reportAll .missed s.seq.fn l { s with seq := timed }
      let cut : State := afterEvents [early] { reported with seq := { timed with
        spots := s.seq.spots.map fun e =>
          if e.place = .inFlight then e else { e with place := .waiting } } }
      (LineLaws s → LineLaws cut) ∧
      ∃ t, exec .syncEdge s = .next t ∧ Offered s.seq.fn early s t ∧ t.hpc = s.hpc ∧
        t.seq.votes = s.seq.votes ∧ t.subt.plan = s.subt.plan ∧
        (s.seq.state = .running → Boundary cut t ∧ t.seq.state = .running ∧ t.seq.sync = .locked ∧
          t.seq.frameTimer = none ∧ t.seq.syncTimer = some (64 * s.seq.syncTimeout)) ∧
        (s.seq.state = .halting → EntersStopped cut t ∧ t.seq.haltCause = none ∧
          ∀ h, s.seq.haltCause = some h →
            LastEvent s.seq.fn ⟨everyPort, .seqStopped, BitVec.ofNat 8 h.port.val,
              if h.kind = .stop then 0 else 1⟩ s t) ∧
        ((dues.map Due.id).Nodup →
          (∀ d ∈ dues, ∀ w, s.window d.id = some w → w.generation = d.generation →
            (s.record d.id).state = .active → (s.record d.id).staged = none →
            (w.position + 1 < w.average.count →
              t.window d.id = some { w with misses := w.misses + 1, position := w.position + 1 } ∧
              t.record d.id = s.record d.id ∧ t.dlv.latest[d.id] = s.dlv.latest[d.id]) ∧
            (w.position + 1 = w.average.count →
              t.window d.id = some {
                generation := w.generation, average := w.average, profile := w.profile,
                position := 0, sum := 0, folded := 0, misses := 0, railLow := false, railHigh := false,
                refFault := false } ∧
              t.record d.id = { s.record d.id with sequence := (s.record d.id).sequence + 1 } ∧
              ∃ r, t.dlv.latest[d.id] = some r ∧ r.frame = some s.seq.fn ∧ r.flags.missed = true ∧
                r.sequence = (s.record d.id).sequence ∧ r.folded = w.folded ∧
                r.generation = w.generation)) ∧
          ∀ i : SubId, i ∉ dues.map Due.id → (s.record i).state = .active → (s.record i).staged = none →
            t.record i = s.record i ∧ t.window i = s.window i ∧ t.dlv.latest[i] = s.dlv.latest[i])

/-- R45: the expiry of a running sync timer makes the sync state FALLBACK, raises SYNC_LOST with the FN of the frame
that ended, and is a boundary under internal timing in RUNNING, the first boundary in STARTING, and the end of
the last frame in HALTING. That SEQ_STARTED and SEQ_STOPPED are raised last is the model's choice (log 12). Spot
entries still assigned return to WAITING (log 16), and standalone service checks REFIN at the level held (log
8). -/
def Obligations.SyncTimerExpiry : Prop :=
  ∀ s : State, s.resetting = none → s.seq.syncTimer ≠ none →
    let lost : Announced := ⟨everyPort, .syncLost, 0, 0⟩
    ((s.seq.state = .running ∨ s.seq.state = .starting) →
      ∃ t, exec .syncTimerExpiry s = .next t ∧
        Boundary (if s.seq.state = .running then spotsReturned s else s) t ∧ t.seq.state = .running ∧
        t.seq.sync = .fallback ∧ t.seq.frameTimer = some (s.seq.slots + 1) ∧ t.seq.syncTimer = none ∧
        Offered s.seq.fn lost s t ∧
        (s.seq.state = .starting → ∀ v, s.seq.starter = some v →
          LastEvent t.seq.fn ⟨everyPort, .seqStarted, BitVec.ofNat 8 v.val,
            BitVec.ofNat 16 (s.seq.slots % 256)⟩ s t)) ∧
    ∀ h : HaltCause, s.seq.state = .halting → s.seq.haltCause = some h →
      ∃ t, exec .syncTimerExpiry s = .next t ∧ EntersStopped (spotsReturned s) t ∧ t.seq.haltCause = none ∧
        t.seq.votes = s.seq.votes ∧ t.hpc = s.hpc ∧ Offered s.seq.fn lost s t ∧
        LastEvent s.seq.fn ⟨everyPort, .seqStopped, BitVec.ofNat 8 h.port.val,
          if h.kind = .stop then 0 else 1⟩ s t

/-! ### Converter (R58 to R64) -/

/-- R31, R32, R60, R61: at the end of a warm-up the converter is READY. In STARTING the first boundary is taken at
once under INTERNAL timing, with SEQ_STARTED, and the sync timer starts under EXTERNAL timing; while STOPPED a
waiting head entry is served with those behind it for the same input (R73, R74), and with an empty spot queue the
converter goes OFF. That SEQ_STARTED is raised last is the model's choice (log 12), and the level at REFIN is the
row's operand (log 8). -/
def Obligations.WarmUpEnds : Prop :=
  ∀ (refin : RefLevel) (s : State), s.resetting = none → s.conv.power = .warming →
    s.conv.conversion = none →
    let warm : State := { s with
      isel := { s.isel with refin := refin }
      conv := { s.conv with power := .ready, warmUp := none } }
    (s.seq.state = .starting → s.seq.source = .internal → s.seq.sync ≠ .locked →
      ∃ t, exec (.warmUpExpiry refin) s = .next t ∧ Boundary warm t ∧ t.seq.state = .running ∧
        t.seq.frameTimer = some (s.seq.slots + 1) ∧
        ∀ v, s.seq.starter = some v →
          LastEvent t.seq.fn ⟨everyPort, .seqStarted, BitVec.ofNat 8 v.val,
            BitVec.ofNat 16 (s.seq.slots % 256)⟩ s t) ∧
    (s.seq.state = .starting → s.seq.source = .external →
      exec (.warmUpExpiry refin) s = .next { warm with
        seq := { s.seq with syncTimer := some (64 * s.seq.syncTimeout) } }) ∧
    (s.seq.state = .stopped → s.seq.spots = [] →
      exec (.warmUpExpiry refin) s = .next { warm with conv := { warm.conv with power := .off } }) ∧
    (s.seq.state = .stopped → ∀ e ∈ s.seq.spots.head?, e.place = .waiting →
      exec (.warmUpExpiry refin) s = .next (standaloneBegun e.input warm))

/-- R37, R58, R62: a slot that has a list entry begins its conversion: the input is routed, REFIN is checked
against 2.40 V to 2.60 V, the flag follows with REF_FAULT or REF_RECOVERED raised when it changes, and the
converter is BUSY with the slot time of the divider in force. A slot without one passes. Outside a frame, and
after slot S, no slot begins (log 4); the level at REFIN is always the new one (log 8). -/
def Obligations.SlotBeginsItsConversion : Prop :=
  ∀ (refin : RefLevel) (s : State), s.resetting = none →
    let there : State := { s with isel := { s.isel with refin := refin } }
    let good : Bool := decide (2400000 ≤ refin ∧ refin ≤ 2600000)
    ((s.seq.state = .stopped ∨ s.seq.state = .starting ∨ s.seq.slots ≤ s.seq.slot) →
      exec (.slotStart refin) s = .next there) ∧
    ((s.seq.state = .running ∨ s.seq.state = .halting) → s.seq.slot < s.seq.slots →
      s.conv.conversion = none →
      match s.seq.list.find? (fun x => x.slot == s.seq.slot + 1) with
      | none => exec (.slotStart refin) s =
          .next { there with seq := { s.seq with slot := s.seq.slot + 1 } }
      | some x => s.conv.power = .ready →
        exec (.slotStart refin) s = .next (afterEvents
          (match s.isel.refOk, good with
          | .ok, false => [⟨everyPort, .refFault, 0, BitVec.ofNat 16 x.input.val⟩]
          | .fault, true => [⟨everyPort, .refRecovered, 0, BitVec.ofNat 16 x.input.val⟩]
          | .ok, true => []
          | .fault, false => [])
          { s with
            isel := { s.isel with refin := refin, routed := some x.input,
                                  refOk := if good then .ok else .fault }
            seq := { s.seq with
              slot := s.seq.slot + 1
              spots := s.seq.spots.map fun e =>
                if e.place = .listed x.slot then { e with place := .inFlight } else e }
            conv := { s.conv with power := .busy, conversion := some {
              input := x.input, refFault := !good, slotTime := s.seq.divider.value,
              frame := some s.seq.fn, due := x.due } } }))

/-- R41, R64, R72, R84 and R85: the completion of a conversion, credited to a frame or standalone. The converter is
READY, the routing released. The due set of a conversion of a frame is passed on in ascending id order, each due
frame folded, or counted as a miss with a REF_FAULT mark; windows it does not belong to are left. Then the spot
entries in flight complete in queue order: each leaves the queue, its input's use count falls, and its spot
record (Table 4-2) goes to its port alone, and the laws of the trip lines are kept. While frames run nothing
more follows. In STARTING the first boundary is taken under INTERNAL timing and the sync timer starts under
EXTERNAL timing (R31, R32, R75); while STOPPED the next waiting head entry is served with those behind it for
the same input, and with an empty queue the converter goes OFF (R61, R73, R74). The code for 0 V against 0 V is
a free value (log 9); that SEQ_STARTED is raised last is the model's choice (log 12), and REFIN is at the row's
level (log 8). -/
def Obligations.ConversionCompletes : Prop :=
  ∀ (vin : Level) (vref : RefLevel) (c : Conversion) (s : State), s.resetting = none →
    s.conv.conversion = some c →
    let code := convertCode (Config.codeAtZeroReference s.freeCount) vin vref
    let free : State := { s with
      isel := { s.isel with routed := none, refin := vref }
      conv := { s.conv with power := .ready, conversion := none }
      freeCount := if vref = 0 ∧ vin = 0 then s.freeCount + 1 else s.freeCount }
    let served := s.seq.spots.filter fun e => decide (e.place = .inFlight)
    let record (e : SpotEntry) : SampleRecord := {
      kind := .spot, ident := e.tag, sequence := 0, frame := c.frame
      value := e.profile.map fun p => (scale code.toNat (s.profile p)).value
      raw := some code, watch := none, folded := 1, generation := 0, lost := 0
      flags := {
        clipped := e.profile.any fun p => (scale code.toNat (s.profile p)).clipped
        railLow := decide (code = 0), railHigh := decide (code = 4095)
        missed := false, noData := false, refFault := c.refFault } }
    ∃ l : List Due, l.Perm c.due ∧ Ascending l ∧
      let passed : State := match c.frame with
        | none => free
        | some fn => reportAll (if c.refFault then .faulted else .folded code) fn l free
      let done : State := afterCopies (served.map fun e => (e.port, record e)) { passed with
        seq := { s.seq with spots := s.seq.spots.filter fun e => decide (e.place ≠ .inFlight) }
        isel := { passed.isel with inputs := tabulate fun k => { passed.input k with
          useCount := (s.input k).useCount - (served.filter fun e => decide (e.input = k)).length } } }
      (LineLaws s → LineLaws done) ∧
      ((c.due.map Due.id).Nodup →
        (∀ fn, c.frame = some fn → ∀ d ∈ c.due, ∀ w, s.window d.id = some w →
          w.generation = d.generation → w.position + 1 < w.average.count →
          done.record d.id = s.record d.id ∧
          done.window d.id = some (if c.refFault then
              { w with misses := w.misses + 1, refFault := true, position := w.position + 1 }
            else { w with
              folded := w.folded + 1, sum := w.sum + code.toNat, position := w.position + 1,
              railLow := w.railLow || decide (code = 0),
              railHigh := w.railHigh || decide (code = 4095) })) ∧
        ∀ i : SubId, (c.frame = none ∨
            ∀ d ∈ c.due, d.id = i → (s.window i).map Window.generation ≠ some d.generation) →
          done.window i = s.window i ∧ done.record i = s.record i ∧ done.watch i = s.watch i) ∧
      ((s.seq.state = .running ∨ s.seq.state = .halting) →
        exec (.conversionComplete vin vref) s = .next done) ∧
      (s.seq.state = .starting → s.seq.source = .external →
        exec (.conversionComplete vin vref) s = .next { done with
          seq := { done.seq with syncTimer := some (64 * s.seq.syncTimeout) } }) ∧
      (s.seq.state = .starting → s.seq.source = .internal → s.seq.sync ≠ .locked →
        ∃ t, exec (.conversionComplete vin vref) s = .next t ∧ Boundary done t ∧ t.seq.state = .running ∧
          t.seq.frameTimer = some (s.seq.slots + 1) ∧
          ∀ v, s.seq.starter = some v →
            LastEvent t.seq.fn ⟨everyPort, .seqStarted, BitVec.ofNat 8 v.val,
              BitVec.ofNat 16 (s.seq.slots % 256)⟩ s t) ∧
      (s.seq.state = .stopped → done.seq.spots = [] →
        exec (.conversionComplete vin vref) s = .next { done with conv := { done.conv with power := .off } }) ∧
      (s.seq.state = .stopped → ∀ e ∈ done.seq.spots.head?, e.place = .waiting →
        exec (.conversionComplete vin vref) s = .next (standaloneBegun e.input done))

/-- R63: with a reference above 0 V the code is floor(Vin / Vref × 4096) limited to 0 to 4095. -/
def Obligations.CodeIsTheLimitedQuotient : Prop :=
  ∀ (free : BitVec 12) (vin : Level) (vref : RefLevel), 0 < vref →
    ((convertCode free vin vref).toNat : Int) = max 0 (min 4095 (Int.fdiv (vin * 4096) vref)) ∧
    (vin ≤ 0 → convertCode free vin vref = 0) ∧
    ((vref : Int) * 4095 ≤ vin * 4096 → convertCode free vin vref = 4095)

/-! ### Spot requests (R66 to R78) -/

/-- R69 and R70: the spot queue at a boundary. Expiry counts down the WAITING entries that have been considered
and removes those that reach 0, in queue order, the use count of each one's input falling and SPOT_EXPIRED told
to its port alone with its tag, its input and FN as it stands (the number of the new frame, as Boundary says in
the statements that take a boundary), and changes nothing else; assignment then gives a WAITING entry the list
entry of its input, else the next free slot while one is left: from head to tail, so that the free slots go to the
first inputs in the queue that no list entry converts. The order of the queue is kept. -/
def Obligations.SpotsAtABoundary : Prop :=
  (∀ s : State,
    let gone := s.seq.spots.filter fun e =>
      decide (e.place = .waiting) && e.considered && decide (e.remaining ≤ 1)
    expireSpots s = afterEvents
      (gone.map fun e => ⟨PortSet.empty.add e.port, .spotExpired, e.tag, BitVec.ofNat 16 e.input.val⟩)
      { s with
        seq := { s.seq with
          spots := s.seq.spots.filterMap fun e =>
            if e.place = .waiting then
              if e.considered = false then some { e with considered := true }
              else if e.remaining ≤ 1 then none else some { e with remaining := e.remaining - 1 }
            else some e }
        isel := { s.isel with inputs := tabulate fun k => { s.input k with
          useCount := (s.input k).useCount - (gone.filter fun e => decide (e.input = k)).length } } }) ∧
  ∀ (slots : Nat) (planned : List ListEntry) (q : List SpotEntry),
    planned.map ListEntry.slot = (List.range planned.length).map (· + 1) →
    (planned.map ListEntry.input).Nodup → planned.length ≤ slots →
    ∃ (spare : List ListEntry) (q' : List SpotEntry), assignSpots slots planned q = (planned ++ spare, q') ∧
      (planned ++ spare).length ≤ slots ∧ ((planned ++ spare).map ListEntry.input).Nodup ∧
      (planned ++ spare).map ListEntry.slot =
        (List.range (planned ++ spare).length).map (· + 1) ∧
      (∀ x ∈ spare, x.origin = .spare ∧ x.due = [] ∧ ∃ e ∈ q', e.place = .listed x.slot) ∧
      (spare.map ListEntry.input).Sublist (q.map SpotEntry.input) ∧
      spare.map ListEntry.input =
        ((((q.filter fun e => decide (e.place = .waiting)).map SpotEntry.input).filter fun k =>
          decide (k ∉ planned.map ListEntry.input)).eraseDups.take (slots - planned.length)) ∧
      q'.map (fun e => { e with place := .waiting }) = q.map (fun e => { e with place := .waiting }) ∧
      (∀ p ∈ q.zip q', p.1.place ≠ .waiting → p.2 = p.1) ∧
      (∀ p ∈ q.zip q', p.1.place = .waiting →
        match (planned ++ spare).find? (fun x => x.input == p.1.input) with
        | some x => p.2.place = .listed x.slot
        | none => p.2.place = .waiting ∧ (planned ++ spare).length = slots)

/-- R67, R68 and R73: SPOT checks its arguments, the tag, the queue, the port's share and the input's mode in
this order; accepted, the entry stands at the tail with the fields of Table 4-1 and the use count rises; while
STOPPED an OFF converter is powered up, and a READY idle one begins standalone service. -/
def Obligations.SpotIsQueued : Prop :=
  ∀ (n : Port) (tag input spotTag profile timeout : Byte) (s : State),
    Free n (.spot n tag input spotTag profile timeout) s → Attached n s →
    let refused (st : Status) : Prop :=
      exec (.spot n tag input spotTag profile timeout) s = .next (answered n tag st [] s)
    let q := s.seq.spots
    let inRange : Prop := input.toNat < 16 ∧ (profile.toNat < 8 ∨ profile = 0xFF) ∧ 1 ≤ timeout.toNat
    let same : Prop := ∃ e ∈ q, e.port = n ∧ e.tag = spotTag
    let mine : Nat := (q.filter fun e => decide (e.port = n)).length
    (¬ inRange → refused .badArgument) ∧
    (inRange → same → refused .duplicate) ∧
    (inRange → ¬ same → 8 ≤ q.length → refused .queueFull) ∧
    (inRange → ¬ same → q.length < 8 → 4 ≤ mine → refused .portLimit) ∧
    ∀ k : InputNo, input.toNat = k.val →
      (inRange → ¬ same → q.length < 8 → mine < 4 → (s.input k).mode ≠ .analog → refused .inputMode) ∧
      (inRange → ¬ same → q.length < 8 → mine < 4 → (s.input k).mode = .analog →
        let e : SpotEntry := {
          port := n, tag := spotTag, input := k, remaining := timeout.toNat, considered := false,
          place := .waiting
          profile := if h : profile.toNat < 8 then some ⟨profile.toNat, h⟩ else none }
        let taken : State := { s with
          isel := { s.isel with inputs := put s.isel.inputs k { s.input k with
            useCount := (s.input k).useCount + 1 } }
          seq := { s.seq with spots := q ++ [e] } }
        (¬ (s.seq.state = .stopped ∧ s.conv.power = .ready ∧ s.conv.conversion = none) →
          exec (.spot n tag input spotTag profile timeout) s = .next
            (answered n tag .ok [spotTag, BitVec.ofNat 8 (q.length + 1)] { taken with
              conv := if s.seq.state = .stopped ∧ s.conv.power = .off then
                { s.conv with power := .warming, warmUp := some 40 } else s.conv })) ∧
        (s.seq.state = .stopped → s.conv.power = .ready → s.conv.conversion = none →
          ∃ t, exec (.spot n tag input spotTag profile timeout) s = .next t ∧
            Answers n tag .ok [spotTag, BitVec.ofNat 8 (q.length + 1)] s t ∧
            t.subt = s.subt ∧ t.asu = s.asu ∧ t.wtu = s.wtu ∧ t.tripc = s.tripc ∧
            t.seq.spots.map unplaced = (q ++ [e]).map unplaced ∧
            (∀ j : InputNo, t.input j =
              { s.input j with useCount := (s.input j).useCount + if j = k then 1 else 0 }) ∧
            t.conv.power = .busy ∧ t.isel.routed = (q ++ [e]).head?.map SpotEntry.input ∧
            t.conv.conversion.map Conversion.input = (q ++ [e]).head?.map SpotEntry.input))

/-- R76 and R61: CANCEL_SPOT answers NOT_FOUND without an entry of the port and tag, IN_FLIGHT when its
conversion has begun, and else removes it with its use count and a SPARE list entry that no other entry
shares; a READY idle converter left without entries while STOPPED goes OFF. -/
def Obligations.CancelSpotRemoves : Prop :=
  ∀ (n : Port) (tag spotTag : Byte) (s : State), Free n (.cancelSpot n tag spotTag) s → Attached n s →
    SpotLaw s →
    let own (e : SpotEntry) : Bool := decide (e.port = n ∧ e.tag = spotTag)
    ((∀ e ∈ s.seq.spots, own e = false) →
      exec (.cancelSpot n tag spotTag) s = .next (answered n tag .notFound [] s)) ∧
    ∀ e ∈ s.seq.spots, own e = true →
      (e.place = .inFlight →
        exec (.cancelSpot n tag spotTag) s = .next (answered n tag .inFlight [] s)) ∧
      (e.place ≠ .inFlight →
        let kept := s.seq.spots.filter fun x => !own x
        exec (.cancelSpot n tag spotTag) s = .next (answered n tag .ok [] { s with
          isel := { s.isel with inputs := put s.isel.inputs e.input { s.input e.input with
            useCount := (s.input e.input).useCount - 1 } }
          seq := { s.seq with
            spots := kept
            list := s.seq.list.filter fun x => decide (x.origin = .planned ∨ x.slot ≤ s.seq.slot ∨
              ∃ y ∈ kept, y.place = .listed x.slot) }
          conv := if s.conv.power = .ready ∧ s.seq.state = .stopped ∧ kept = [] ∧
              s.conv.conversion = none then { s.conv with power := .off } else s.conv }))

/-! ### Inputs, profiles and scaling (R54 to R57, R90 to R98) -/

/-- R54 and R55: CONFIG_INPUT checks its values (TRIP for AIN12 to AIN15 only), the use count and a conversion
in progress, and the trip line of a TRIP pin, in this order; accepted, mode, polarity (ACTIVE_HIGH on AIN0 to
AIN11) and pin take their new state, and nothing else changes. -/
def Obligations.ConfigInputSetsThePin : Prop :=
  ∀ (n : Port) (tag input mode polarity : Byte) (s : State),
    Free n (.configInput n tag input mode polarity) s → Control n s → TripLaw s →
    let refused (st : Status) : Prop :=
      exec (.configInput n tag input mode polarity) s = .next (answered n tag st [] s)
    let valid : Prop := input.toNat < 16 ∧ mode.toNat < 3 ∧ polarity.toNat < 2 ∧
      ¬ (mode = 2 ∧ input.toNat < 12)
    let newMode : InputMode := if mode = 0 then .analog else if mode = 1 then .off else .trip
    let asked : Polarity := if polarity = 1 then .activeLow else .activeHigh
    (¬ valid → refused .badArgument) ∧
    ∀ k : InputNo, input.toNat = k.val → valid →
      let x := s.input k
      let used : Prop := x.useCount ≠ 0 ∨ s.conv.conversion.map Conversion.input = some k
      let held : Prop := x.mode = .trip ∧ (newMode ≠ x.mode ∨ asked ≠ x.polarity) ∧
        ∃ l : LineNo, lineInput l = k ∧ (s.line l).state ≠ .disarmed
      let pol : Polarity := if k.val < 12 then .activeHigh else asked
      let keepsDrive : Prop := x.mode = .trip ∧ newMode = .trip ∧ asked = x.polarity
      (used → refused .inUse) ∧
      (¬ used → held → refused .tripState) ∧
      (¬ used → ¬ held →
        ∃ d : PinDrive,
          (keepsDrive → d = x.drive) ∧
          (¬ keepsDrive → d = match newMode with
            | .analog => .analogInput
            | .off => .highImpedance
            | .trip => tripLevel pol false) ∧
          exec (.configInput n tag input mode polarity) s = .next
            (answered n tag .ok [input, mode, pol.value] { s with
              isel := { s.isel with inputs := put s.isel.inputs k { x with
                mode := newMode, polarity := pol, drive := d } } }))

/-- R57, R98, R127, R139, R174 and R177: READ_INPUTS, READ_PROFILE, READ_TRIP and READ_LATEST answer the fields of
Table 10-5, records by Table 10-6, to any ATTACHED port, refuse an argument out of range with BAD_ARGUMENT, and
change nothing but the port's own answer. -/
def Obligations.ReadsAnswerAndKeep : Prop :=
  FieldValues ∧
  ∀ (n : Port) (tag arg : Byte) (s : State), Attached n s →
    (Free n (.readInputs n tag) s →
      exec (.readInputs n tag) s = .next (answered n tag .ok
        ((List.finRange 16).flatMap (fun k : InputNo => [(s.input k).mode.value,
            (s.input k).polarity.value, byteOf (s.input k).useCount])
          ++ [s.isel.refOk.value, s.conv.power.value]) s)) ∧
    (Free n (.readProfile n tag arg) s →
      (8 ≤ arg.toNat → exec (.readProfile n tag arg) s = .next (answered n tag .badArgument [] s)) ∧
      ∀ p : ProfileNo, arg.toNat = p.val →
        let x := s.profile p
        exec (.readProfile n tag arg) s = .next (answered n tag .ok
          (twoBytes x.gain ++ threeBytes x.offset ++
            match x.staged with
            | none => [0, 0, 0, 0, 0, 0, 0xFF]
            | some v => [1] ++ twoBytes v.gain ++ threeBytes v.offset
                ++ [BitVec.ofNat 8 v.port.val]) s)) ∧
    (Free n (.readTrip n tag arg) s →
      (4 ≤ arg.toNat → exec (.readTrip n tag arg) s = .next (answered n tag .badArgument [] s)) ∧
      ∀ l : LineNo, arg.toNat = l.val →
        exec (.readTrip n tag arg) s = .next (answered n tag .ok
          ([(s.line l).state.value, (s.line l).arming.value, (s.line l).ack.value]
            ++ twoBytes (BitVec.ofNat 16 (s.line l).count)
            ++ [(s.input (lineInput l)).mode.value, (s.input (lineInput l)).polarity.value]) s)) ∧
    ∀ ids : List Byte, 1 ≤ ids.length → ids.length ≤ 7 → Free n (.readLatest n tag ids) s →
      ((∃ b ∈ ids, 32 ≤ b.toNat) →
        exec (.readLatest n tag ids) s = .next (answered n tag .badArgument [] s)) ∧
      ∀ l : List SubId, ids = l.map (fun i => BitVec.ofNat 8 i.val) →
        exec (.readLatest n tag ids) s = .next (answered n tag .ok
          (l.flatMap fun i => match s.dlv.latest[i] with
            | some r => sampleRow r
            | none => [0x80, BitVec.ofNat 8 i.val] ++ List.replicate 14 0) s)

/-- R93 to R95: SET_PROFILE refuses P0 and an index above 7 with BAD_ARGUMENT; while the sequencer is STOPPED it
writes the active value; otherwise it stages the value for the calling port, or answers STAGED_CONFLICT when
another port has staged one. -/
def Obligations.SetProfileStages : Prop :=
  ∀ (n : Port) (tag index : Byte) (gain : BitVec 16) (offset : BitVec 24) (s : State),
    Free n (.setProfile n tag index gain offset) s → Control n s →
    ((index = 0 ∨ 8 ≤ index.toNat) →
      exec (.setProfile n tag index gain offset) s = .next (answered n tag .badArgument [] s)) ∧
    ∀ p : ProfileNo, index.toNat = p.val → p ≠ 0 →
      let write (x : Profile) : State :=
        { s with asu := { s.asu with profiles := put s.asu.profiles p x } }
      exec (.setProfile n tag index gain offset) s = .next (
        if s.seq.state = .stopped then
          answered n tag .ok [index, 0] (write { s.profile p with gain := gain, offset := offset })
        else if ∃ v, (s.profile p).staged = some v ∧ v.port ≠ n then
          answered n tag .stagedConflict [] s
        else answered n tag .ok [index, 1] (write { s.profile p with staged := some ⟨gain, offset, n⟩ }))

/-- R90: the scaled value is floor(a × g / 4096) + o clipped to the signed 24-bit range, with CLIPPED exactly
when the sum lies outside it; gain 4096 and offset 0 give the raw average. -/
def Obligations.ScalingFloorsAndClips : Prop :=
  ∀ (a : Nat) (p : Profile), a ≤ 4095 →
    let sum : Int := Int.fdiv ((a : Int) * p.gain.toInt) 4096 + p.offset.toInt
    (scale a p).value.toInt = max (-8388608) (min 8388607 sum) ∧
    ((scale a p).clipped = true ↔ sum < -8388608 ∨ 8388607 < sum) ∧
    (p.gain = 4096 → p.offset = 0 →
      (scale a p).value.toInt = a ∧ (scale a p).clipped = false)

/-! ### Windows and watches (R83 to R89, R102 to R105) -/

/-- R83 to R89, R102, R106, R108, R109, R132 and R138: a due frame of a window of another generation, or of no
window, does nothing; one that is not the last folds or misses and advances the position; the last closes the
window: a record with the fields of R88 is handed through WTU to DLV, which writes it to the latest table, the
window starts again and the sequence rises by 1. WTU does not evaluate a record of an id without a watch, with a
frozen one or of another generation, which carries no watch state, nor one without a value, which carries the
state as it stands; it moves the watch on any other value, the alarm sets at the same moment, then raises the
watch events to owner and readers, an alarm with the record's sequence and WATCH_CLEAR with cause NORMAL, then
reports to the line, and hands on the record with the new state; DLV places one copy for each ATTACHED port of
the reader set and for no other. -/
def Obligations.DueFrameEndsOneWay : Prop :=
  (∀ (e : DueEnd) (frame : FrameNo) (d : Due) (s : State),
    ((s.window d.id).map Window.generation ≠ some d.generation → reportDue e frame d s = s) ∧
    ∀ w, s.window d.id = some w → w.generation = d.generation →
      let w' : Window := match e with
        | .folded code => { w with
            folded := w.folded + 1, sum := w.sum + code.toNat
            railLow := w.railLow || decide (code = 0), railHigh := w.railHigh || decide (code = 4095) }
        | .faulted => { w with misses := w.misses + 1, refFault := true }
        | .missed => { w with misses := w.misses + 1 }
      (w.position + 1 ≠ w.average.count →
        reportDue e frame d s = { s with asu := { s.asu with
          windows := put s.asu.windows d.id (some { w' with position := w.position + 1 }) } }) ∧
      (w.position + 1 = w.average.count →
        let t := reportDue e frame d s
        t.window d.id = some {
          generation := w.generation, average := w.average, profile := w.profile,
          position := 0, sum := 0, folded := 0, misses := 0, railLow := false, railHigh := false,
          refFault := false } ∧
        (∀ i : SubId, i ≠ d.id → t.window i = s.window i ∧ t.watch i = s.watch i ∧
          t.dlv.latest[i] = s.dlv.latest[i]) ∧
        t.subt = (withRecord d.id { s.record d.id with
          sequence := (s.record d.id).sequence + 1 } s).subt ∧
        t.seq = s.seq ∧ t.conv = s.conv ∧ t.hpc = s.hpc ∧ t.asu.profiles = s.asu.profiles ∧
        ∃ r, t.dlv.latest[d.id] = some r ∧
          t = withRecord d.id { s.record d.id with sequence := (s.record d.id).sequence + 1 }
            (handleRecord d.id { r with watch := none } { s with asu := { s.asu with
              windows := put s.asu.windows d.id (t.window d.id) } }) ∧
          r.kind = .sub ∧ r.ident = BitVec.ofNat 8 d.id.val ∧
          r.sequence = (s.record d.id).sequence ∧ r.frame = some frame ∧ r.lost = 0 ∧
          r.folded = w'.folded ∧ r.generation = w.generation ∧
          r.raw = (if w'.folded = 0 then none else some (BitVec.ofNat 12 (w'.sum / w'.folded))) ∧
          r.value = (if w'.folded = 0 then none
            else some (scale (w'.sum / w'.folded) (s.profile w.profile)).value) ∧
          r.flags.noData = decide (w'.folded = 0) ∧ r.flags.missed = decide (0 < w'.misses) ∧
          r.flags.refFault = w'.refFault ∧ r.flags.railLow = w'.railLow ∧
          r.flags.railHigh = w'.railHigh ∧
          r.flags.clipped = (decide (w'.folded ≠ 0) &&
            (scale (w'.sum / w'.folded) (s.profile w.profile)).clipped))) ∧
  ∀ (i : SubId) (r : SampleRecord) (s : State), AlarmLaw s →
    handleRecord i r s =
      match s.watch i with
      | none => delivered i r s
      | some w =>
        if w.frozen = true ∨ w.generation ≠ r.generation then delivered i r s
        else match r.value with
          | none => delivered i { r with watch := some w.state } s
          | some v =>
            let m := moveWatch w v.toInt
            let w' : Watch := { w with state := m.state, count := m.count }
            let owner := (s.record i).owner
            let readers := (s.record i).readers
            let audience : PortSet := ⟨owner = some 0 || readers.p0, owner = some 1 || readers.p1,
              owner = some 2 || readers.p2⟩
            let moved : State := { s with wtu := {
              watches := put s.wtu.watches i (some w')
              alarms := tabulate fun l => (List.finRange 32).filter fun j =>
                inAlarmSet (if j = i then some w' else s.watch j) l } }
            let told : State := afterEvents (m.events.map fun code =>
              ⟨audience, code, BitVec.ofNat 8 i.val, if code = .watchClear then 0 else r.sequence⟩) moved
            delivered i { r with watch := some m.state }
              (match w.part.trip, m.report with
              | some l, some .entry => entryReport l i told
              | some l, some .exit => exitReport l i told
              | some _, none => told
              | none, _ => told)

/-- R103, R104 and R105: how one evaluated value moves a watch from NORMAL, from HIGH_PENDING and from
HIGH_ALARM, with count, events in order and report; and LOW_PENDING and LOW_ALARM move in the same way with
the sides exchanged. -/
def Obligations.WatchMoves : Prop :=
  ∀ (w : Watch) (v : Int), w.part.low.toInt < w.part.high.toInt →
    (w.part.hysteresis.toNat : Int) ≤ w.part.high.toInt - w.part.low.toInt →
    1 ≤ w.part.debounce →
    let high := w.part.high.toInt
    let low := w.part.low.toInt
    let y : Int := w.part.hysteresis.toNat
    let d := w.part.debounce
    (w.state = .normal →
      (low ≤ v ∧ v ≤ high → moveWatch w v = ⟨.normal, 0, [], none⟩) ∧
      (high < v → d = 1 → moveWatch w v = ⟨.highAlarm, 1, [.watchAlarmHigh], some .entry⟩) ∧
      (high < v → d ≠ 1 → moveWatch w v = ⟨.highPending, 1, [], none⟩) ∧
      (v < low → d = 1 → moveWatch w v = ⟨.lowAlarm, 1, [.watchAlarmLow], some .entry⟩) ∧
      (v < low → d ≠ 1 → moveWatch w v = ⟨.lowPending, 1, [], none⟩)) ∧
    (w.state = .highPending → w.count < d →
      (high < v → w.count + 1 < d → moveWatch w v = ⟨.highPending, w.count + 1, [], none⟩) ∧
      (high < v → w.count + 1 = d → moveWatch w v = ⟨.highAlarm, d, [.watchAlarmHigh], some .entry⟩) ∧
      (low ≤ v ∧ v ≤ high → moveWatch w v = ⟨.normal, 0, [], none⟩) ∧
      (v < low → moveWatch w v = ⟨.lowPending, 1, [], none⟩)) ∧
    (w.state = .highAlarm →
      (high - y < v → moveWatch w v = ⟨.highAlarm, d, [], none⟩) ∧
      (v ≤ high - y → low ≤ v → moveWatch w v = ⟨.normal, 0, [.watchClear], some .exit⟩) ∧
      (v < low → d = 1 → moveWatch w v =
        ⟨.lowAlarm, 1, [.watchClear, .watchAlarmLow], some .entry⟩) ∧
      (v < low → d ≠ 1 → moveWatch w v = ⟨.lowPending, 1, [.watchClear], some .exit⟩)) ∧
    ∀ w' : Watch, w'.part.high.toInt = -low → w'.part.low.toInt = -high →
      w'.part.hysteresis = w.part.hysteresis → w'.part.debounce = d → w'.count = w.count →
      let mirror : WatchState → WatchState := fun x => match x with
        | .normal => .normal
        | .highPending => .lowPending
        | .lowPending => .highPending
        | .highAlarm => .lowAlarm
        | .lowAlarm => .highAlarm
      let mirrorCode : EventCode → EventCode := fun x =>
        if x = .watchAlarmHigh then .watchAlarmLow else if x = .watchAlarmLow then .watchAlarmHigh else x
      w'.state = mirror w.state →
      (moveWatch w' (-v)).state = mirror (moveWatch w v).state ∧
      (moveWatch w' (-v)).count = (moveWatch w v).count ∧
      (moveWatch w' (-v)).events = (moveWatch w v).events.map mirrorCode ∧
      (moveWatch w' (-v)).report = (moveWatch w v).report

/-! ### Trip lines (R116 to R126) -/

/-- R116, R117 and R119: ARM_TRIP on a DISARMED line arms it for the calling port, or trips it at once with
cause ARM and the lowest id when its alarm set is not empty; on an ARMED or TRIPPED line it adds the port to
the arming set. -/
def Obligations.ArmTripArmsOrTrips : Prop :=
  ∀ (n : Port) (tag line : Byte) (s : State), Free n (.armTrip n tag line) s → Control n s →
    let only : PortSet := ⟨n = 0, n = 1, n = 2⟩
    (4 ≤ line.toNat → exec (.armTrip n tag line) s = .next (answered n tag .badArgument [] s)) ∧
    ∀ l : LineNo, line.toNat = l.val →
      let x := s.line l
      let more : PortSet := ⟨n = 0 || x.arming.p0, n = 1 || x.arming.p1, n = 2 || x.arming.p2⟩
      ((s.input (lineInput l)).mode ≠ .trip →
        exec (.armTrip n tag line) s = .next (answered n tag .pinMode [] s)) ∧
      ((s.input (lineInput l)).mode = .trip →
        exec (.armTrip n tag line) s = .next (
          match x.state with
          | .disarmed =>
            match s.alarms l with
            | [] => answered n tag .ok [line, 1, if x.ack.has n then 1 else 0]
                (withLine l { x with state := .armed, arming := only } s)
            | i :: _ => answered n tag .ok [line, 2, 0] (afterEvents
                [⟨everyPort, .tripAsserted, BitVec.ofNat 8 l.val, BitVec.ofNat 16 (256 + i.val)⟩]
                (withLine l { state := .tripped, arming := only, ack := ⟨false, false, false⟩,
                              count := if x.count < 65535 then x.count + 1 else 65535 } s))
          | .armed => answered n tag .ok [line, 1, if x.ack.has n then 1 else 0]
              (withLine l { x with arming := more } s)
          | .tripped => answered n tag .ok [line, 2, if x.ack.has n then 1 else 0]
              (withLine l { x with arming := more } s)))

/-- R121, R122 and R123: ACK_TRIP checks line, membership and state in this order, adds the calling port to the
ack set, and releases the line to ARMED with TRIP_RELEASED exactly when the ack set then equals the arming set
and the alarm set is empty. -/
def Obligations.AckTripMayRelease : Prop :=
  ∀ (n : Port) (tag line : Byte) (s : State), Free n (.ackTrip n tag line) s → Control n s → TripLaw s →
    (4 ≤ line.toNat → exec (.ackTrip n tag line) s = .next (answered n tag .badArgument [] s)) ∧
    ∀ l : LineNo, line.toNat = l.val →
      let x := s.line l
      let acked : PortSet := ⟨n = 0 || x.ack.p0, n = 1 || x.ack.p1, n = 2 || x.ack.p2⟩
      exec (.ackTrip n tag line) s = .next (
        if x.arming.has n = false then answered n tag .notMember [] s
        else if x.state ≠ .tripped then answered n tag .tripState [] s
        else if acked = x.arming ∧ s.alarms l = [] then
          answered n tag .ok [line, 1] (afterEvents
            [⟨everyPort, .tripReleased, BitVec.ofNat 8 l.val, BitVec.ofNat 16 n.val⟩]
            (withLine l { x with state := .armed, ack := ⟨false, false, false⟩ } s))
        else answered n tag .ok [line, 2] (withLine l { x with ack := acked } s))

/-- R124: DISARM_TRIP checks line, membership and state in this order, takes the calling port out of the arming
set of an ARMED line, and disarms the line when the set has become empty. -/
def Obligations.DisarmTripLeaves : Prop :=
  ∀ (n : Port) (tag line : Byte) (s : State), Free n (.disarmTrip n tag line) s → Control n s → TripLaw s →
    (4 ≤ line.toNat → exec (.disarmTrip n tag line) s = .next (answered n tag .badArgument [] s)) ∧
    ∀ l : LineNo, line.toNat = l.val →
      let x := s.line l
      let rest : PortSet := ⟨n ≠ 0 && x.arming.p0, n ≠ 1 && x.arming.p1, n ≠ 2 && x.arming.p2⟩
      exec (.disarmTrip n tag line) s = .next (
        if x.arming.has n = false then answered n tag .notMember [] s
        else if x.state = .tripped then answered n tag .tripState [] s
        else if rest = ⟨false, false, false⟩ then
          answered n tag .ok [line, 0] (withLine l { x with state := .disarmed, arming := rest } s)
        else answered n tag .ok [line, 1] (withLine l { x with arming := rest } s))

/-- R118, R119 and R120: an ENTRY report does nothing to a DISARMED line, trips an ARMED one with cause ALARM,
and empties the ack set of a TRIPPED one with cause RENEWED; an EXIT report releases a TRIPPED line whose
release condition holds, with cause EXIT, and does nothing else. -/
def Obligations.ReportsToALine : Prop :=
  ∀ (l : LineNo) (i : SubId) (s : State), TripLaw s →
    let x := s.line l
    (entryReport l i s =
      match x.state with
      | .disarmed => s
      | .armed => afterEvents
          [⟨everyPort, .tripAsserted, BitVec.ofNat 8 l.val, BitVec.ofNat 16 i.val⟩]
          (withLine l { x with state := .tripped, ack := ⟨false, false, false⟩,
                               count := if x.count < 65535 then x.count + 1 else 65535 } s)
      | .tripped => afterEvents
          [⟨everyPort, .tripAsserted, BitVec.ofNat 8 l.val, BitVec.ofNat 16 (512 + i.val)⟩]
          (withLine l { x with ack := ⟨false, false, false⟩ } s)) ∧
    exitReport l i s =
      if x.state = .tripped ∧ x.arming ≠ ⟨false, false, false⟩ ∧ x.ack = x.arming ∧ s.alarms l = [] then
        afterEvents
          [⟨everyPort, .tripReleased, BitVec.ofNat 8 l.val, BitVec.ofNat 16 (256 + i.val)⟩]
          (withLine l { x with state := .armed, ack := ⟨false, false, false⟩ } s)
      else s

/-! ### Delivery (R133 to R143) -/

/-- R133, R134, R135 and R142: how a copy of a record and an event entry are placed. -/
def Obligations.PlacementInTheQueues : Prop :=
  (∀ (policy : Policy) (r : SampleRecord) (q : PortQueues),
    let lost := if q.lost < 255 then q.lost + 1 else 255
    (q.samples.length < 64 → placeCopy policy r q =
      { q with samples := q.samples ++ [{ r with lost := q.lost }], lost := 0 }) ∧
    (64 ≤ q.samples.length → placeCopy .keepOldest r q = { q with lost := lost }) ∧
    (64 ≤ q.samples.length → placeCopy .keepNewest r q = { q with
      samples := q.samples.tail ++ [{ r with lost := lost }]
      sampleUnacked := q.sampleUnacked - 1, lost := 0 })) ∧
  ∀ (e : EventEntry) (q : List EventEntry),
    (∀ l, q.getLast? = some l → l.code = .eventsLost →
      offerEntry e q = q.dropLast ++ [{ l with
        count := if l.count < 255 then l.count + 1 else 255, detail := (eventByte e.code).setWidth 16 }]) ∧
    ((∀ l, q.getLast? = some l → l.code ≠ .eventsLost) →
      (q.length < 15 → offerEntry e q = q ++ [e]) ∧
      (15 ≤ q.length → offerEntry e q = q ++ [{
        code := .eventsLost, subject := 0, frame := e.frame, detail := (eventByte e.code).setWidth 16,
        count := 1, reported := 0 }]))

/-- R136: READ_SAMPLES with an acknowledgement above the unacked count is BAD_ACK with the two counts and
changes nothing; else it removes the acknowledged head records, returns the next min(n, 7) without removing
them, sets the unacked count to their number and judges ATTNn. A record stands in the answer as the 16 bytes of
Table 10-6 (R177). -/
def Obligations.ReadSamplesAcknowledges : Prop :=
  ∀ (n : Port) (tag ack most : Byte) (s : State), Free n (.readSamples n tag ack most) s → Attached n s →
    let q := s.queues n
    let rest := q.samples.drop ack.toNat
    let back := rest.take (min most.toNat 7)
    exec (.readSamples n tag ack most) s = .next (
      if q.sampleUnacked < ack.toNat then
        answered n tag .badAck [BitVec.ofNat 8 q.sampleUnacked, BitVec.ofNat 8 q.samples.length] s
      else answered n tag .ok
        ([BitVec.ofNat 8 rest.length, BitVec.ofNat 8 back.length] ++ back.flatMap sampleRow)
        { s with dlv := { s.dlv with queues := put s.dlv.queues n { q with
          samples := rest, sampleUnacked := back.length
          attn := decide (0 < q.events.length ∨ (s.port n).watermark ≤ rest.length) } } })

/-- R143: READ_EVENTS removes the acknowledged head entries, leaves a new EVENTS_LOST for what a removed one
had counted since it was returned, returns the next min(n, 15) entries without removing them, records the
reported count of a returned EVENTS_LOST and judges ATTNn; too large an acknowledgement is BAD_ACK. An entry
stands in the answer as its 8 bytes, with the codes of Table 10-8 (R178). -/
def Obligations.ReadEventsAcknowledges : Prop :=
  ∀ (n : Port) (tag ack most : Byte) (s : State), Free n (.readEvents n tag ack most) s → Attached n s →
    DeliveryLaw s →
    let q := s.queues n
    let carried : List EventEntry :=
      match (q.events.take ack.toNat).getLast? with
      | none => []
      | some e => if e.code = .eventsLost ∧ e.reported < e.count then
          [{ code := .eventsLost, subject := 0, frame := s.seq.fn, detail := e.detail,
             count := e.count - e.reported, reported := 0 }] else []
    let rest := q.events.drop ack.toNat ++ carried
    let back := rest.take (min most.toNat 15)
    exec (.readEvents n tag ack most) s = .next (
      if q.eventUnacked < ack.toNat then
        answered n tag .badAck [BitVec.ofNat 8 q.eventUnacked, BitVec.ofNat 8 q.events.length] s
      else answered n tag .ok
        ([BitVec.ofNat 8 rest.length, BitVec.ofNat 8 back.length] ++ back.flatMap eventRow)
        { s with dlv := { s.dlv with queues := put s.dlv.queues n { q with
          events := (back.map fun e =>
              if e.code = .eventsLost then { e with reported := e.count } else e)
            ++ rest.drop (min most.toNat 15)
          eventUnacked := back.length
          attn := decide (0 < rest.length ∨ (s.port n).watermark ≤ q.samples.length) } } })

/-! ### Reset (R170, R171) -/

/-- R170 and R171: a reset gives every block its reset values, makes every MISOn high-impedance and ignores a
transaction in progress, keeping each port's role until its end (log 17: the model's choice) and what MISOn showed
in the last whole transaction (log 19: the model's own record). While it lasts a transaction that begins is ignored
in full, and every command and event but a reset, its end and the transactions changes nothing. At its end each
port takes the role of its strap and the reset cause; every port is then DETACHED with an EMPTY holder and every
block at its reset values. A transaction ignored by a reset is not taken when it ends, during the reset or after
it: MISOn has been high-impedance throughout it, and the holder and all else stay as they are. That a
TRANSACTION_START within it changes nothing, since a pin that is low does not fall, and that a COMMAND_FRAME without
one is a whole transaction, is the model's choice (log 15). -/
def Obligations.ResetBeginsAndEnds : Prop :=
  (∀ (kind : ResetKind) (s : State),
    ∃ t, exec (.reset kind) s = .next t ∧
      t = { hpc := t.hpc, isel := { refin := s.isel.refin }, resetting := t.resetting,
            freeCount := s.freeCount, pending := s.pending } ∧
      t.resetting = (if s.resetting = some .powerOn then some .powerOn else some kind) ∧
      ∀ n : Port, t.port n = {
        role := (s.port n).role, cause := (s.port n).cause,
        transaction := if (s.port n).transaction = .idle then .idle else .ignored,
        miso := .highImpedance, misoCarried := (s.port n).misoCarried }) ∧
  (∀ (c : Instr) (s : State), s.resetting ≠ none →
    (∀ kind, c ≠ .reset kind) → (∀ s0 s1 s2, c ≠ .resetEnd s0 s1 s2) → (∀ n, c ≠ .transactionStart n) →
    (∀ n mosi, c ≠ .commandFrame n mosi) → exec c s = .next s) ∧
  (∀ (n : Port) (mosi : List Bool) (s : State), s.resetting ≠ none → (s.port n).transaction = .idle →
    exec (.transactionStart n) s = .next (withPort n { s.port n with transaction := .ignored } s) ∧
    exec (.commandFrame n mosi) s = .next (withPort n (ignoredPort mosi.length (s.port n)) s)) ∧
  (∀ (n : Port) (mosi : List Bool) (s : State), (s.port n).transaction = .ignored →
    exec (.transactionStart n) s = .next s ∧
    exec (.commandFrame n mosi) s = .next (withPort n (ignoredPort mosi.length (s.port n)) s)) ∧
  ∀ (s0 s1 s2 : Bool) (kind : ResetKind) (s : State), s.resetting = some kind → ResetLaw s →
    ∃ t, exec (.resetEnd s0 s1 s2) s = .next t ∧
      t = { hpc := t.hpc, isel := { refin := s.isel.refin }, resetting := none,
            freeCount := s.freeCount, pending := s.pending } ∧
      ∀ n : Port, (t.port n).session = .detached ∧ (t.port n).holder = .empty ∧ t.port n = {
        role := if (n = 0 ∧ s0) ∨ (n = 1 ∧ s1) ∨ (n = 2 ∧ s2) then .control else .monitor,
        cause := if kind = .powerOn then .powerOn else .resetPin,
        transaction := if (s.port n).transaction = .idle then .idle else .ignored,
        miso := .highImpedance, misoCarried := (s.port n).misoCarried }

/-! ### The laws that hold at all times -/

/-- R5 and R6: the plan table counts the reservations, and no residue demands more than S inputs, after every
step from a state where both hold. -/
def Obligations.PlanLawsKept : Prop :=
  ∀ s t : State, PlanLaw s → CapacityLaw s → step s = .next t → PlanLaw t ∧ CapacityLaw t

/-- R53: every use count is the number of claims on its input, and an input in use is in ANALOG mode, after
every step from a state where it is so. -/
def Obligations.UseLawKept : Prop := ∀ s t : State, UseLaw s → step s = .next t → UseLaw t

/-- R107 and section 7.1: the alarm sets hold the watches in alarm, and the alarm set of an ARMED line is
empty, after every step from a state where it is so. -/
def Obligations.AlarmLawKept : Prop :=
  ∀ s t : State, AlarmLaw s → (∀ l : LineNo, (s.line l).state = .armed → s.alarms l = []) →
    step s = .next t → AlarmLaw t ∧ ∀ l : LineNo, (t.line l).state = .armed → t.alarms l = []

/-- R130, R142 and R144: the bounds of the queues, the place of EVENTS_LOST, the empty queues of a DETACHED
port and the level of ATTNn are kept by every step. -/
def Obligations.DeliveryLawKept : Prop := ∀ s t : State, DeliveryLaw s → step s = .next t → DeliveryLaw t

/-- R2, R28, R66, R97, R126 and R170: owners, readers, voters, spot entries, staging ports and arming ports
belong to open sessions, and to CONTROL ports where the rules ask for it, and while a reset lasts every block
holds its reset values and no transaction is in progress but one that is ignored (R171), after every step from a
state where it is so and the trip lines are in order. R150, R170, R171: MISOn is high-impedance while SSn is high,
while a reset lasts and throughout an ignored transaction, and driven in any other, after every step from a state
where it is so. That it shows the first bit until the frame is taken is the model's choice (log 19). -/
def Obligations.SessionAndResetLawsKept : Prop :=
  (∀ s t : State, ResetLaw s → SessionLaw s → TripLaw s → step s = .next t → ResetLaw t ∧ SessionLaw t) ∧
  ∀ s t : State, MisoLaw s → step s = .next t → MisoLaw t

/-- R28 and R34: votes and sequencer state, the halt cause of HALTING, and the rest of STOPPED are kept by every
step. R41, R60 and R62: so are the converter's states, with one conversion in progress and its input routed; and
no frame begins more than S conversions, given that no residue demands more than S inputs (R6). -/
def Obligations.VoteAndConverterLawsKept : Prop :=
  (∀ s t : State, VoteLaw s → step s = .next t → VoteLaw t) ∧
  ∀ s t : State, ConverterLaw s → CapacityLaw s → step s = .next t → ConverterLaw t

/-- R92 and R96: P0 is never changed, and no staged value stands while the sequencer is STOPPED, after every
step. R81, R82, R100 and R112: windows and watches stand for exactly the records that have them, in step with
their generation and parameters, and a window's position is less than A and the sum of its folds and misses. -/
def Obligations.ProfileAndWindowLawsKept : Prop :=
  (∀ s t : State, ProfileLaw s → step s = .next t → ProfileLaw t) ∧
  ∀ s t : State, WindowLaw s → step s = .next t → WindowLaw t

/-- R114 and R115: the sets of every trip line, and the level of its pin, are kept in step with its state. -/
def Obligations.TripLawKept : Prop := ∀ s t : State, TripLaw s → step s = .next t → TripLaw t

/-- R66: the spot queue holds at most 8 entries, at most 4 of one port, and no port and tag twice. -/
def Obligations.SpotLawKept : Prop := ∀ s t : State, SpotLaw s → step s = .next t → SpotLaw t

/-- Every law holds in the state right after reset, with the straps of log 1 (the model's choice). -/
def Obligations.LawsHoldAtReset : Prop :=
  PlanLaw State.reset ∧ CapacityLaw State.reset ∧ UseLaw State.reset ∧ AlarmLaw State.reset ∧
  DeliveryLaw State.reset ∧ ResetLaw State.reset ∧ SessionLaw State.reset ∧ VoteLaw State.reset ∧
  ProfileLaw State.reset ∧ TripLaw State.reset ∧ SpotLaw State.reset ∧ ConverterLaw State.reset ∧
  WindowLaw State.reset ∧ MisoLaw State.reset ∧
  ∀ l : LineNo, (State.reset.line l).state = .armed → State.reset.alarms l = []
end

