-- ==== Sys2Proof/Laws/State.lean ====
section
/-! SUPPORT. What every update of the state does to every field, and to every entry that an accessor reads of a
block that the update leaves alone: one lemma each, true by `rfl`, so that no later proof unfolds an update. -/

namespace Sys2Proof.Machine

/-! ### Updates of one block -/

section
variable (s : State) (x : Isel)
@[simp] theorem State.withIsel_isel : (s.withIsel x).isel = x := rfl
@[simp] theorem State.withIsel_conv : (s.withIsel x).conv = s.conv := rfl
@[simp] theorem State.withIsel_seq : (s.withIsel x).seq = s.seq := rfl
@[simp] theorem State.withIsel_subt : (s.withIsel x).subt = s.subt := rfl
@[simp] theorem State.withIsel_asu : (s.withIsel x).asu = s.asu := rfl
@[simp] theorem State.withIsel_wtu : (s.withIsel x).wtu = s.wtu := rfl
@[simp] theorem State.withIsel_tripc : (s.withIsel x).tripc = s.tripc := rfl
@[simp] theorem State.withIsel_dlv : (s.withIsel x).dlv = s.dlv := rfl
@[simp] theorem State.withIsel_hpc : (s.withIsel x).hpc = s.hpc := rfl
@[simp] theorem State.withIsel_resetting : (s.withIsel x).resetting = s.resetting := rfl
@[simp] theorem State.withIsel_freeCount : (s.withIsel x).freeCount = s.freeCount := rfl
@[simp] theorem State.withIsel_pending : (s.withIsel x).pending = s.pending := rfl
@[simp] theorem State.withIsel_record (i : SubId) : (s.withIsel x).record i = s.record i := rfl
@[simp] theorem State.withIsel_window (i : SubId) : (s.withIsel x).window i = s.window i := rfl
@[simp] theorem State.withIsel_profile (p : ProfileNo) : (s.withIsel x).profile p = s.profile p := rfl
@[simp] theorem State.withIsel_watch (i : SubId) : (s.withIsel x).watch i = s.watch i := rfl
@[simp] theorem State.withIsel_alarms (t : LineNo) : (s.withIsel x).alarms t = s.alarms t := rfl
@[simp] theorem State.withIsel_line (t : LineNo) : (s.withIsel x).line t = s.line t := rfl
@[simp] theorem State.withIsel_queues (n : Port) : (s.withIsel x).queues n = s.queues n := rfl
@[simp] theorem State.withIsel_port (n : Port) : (s.withIsel x).port n = s.port n := rfl
end

section
variable (s : State) (x : Conv)
@[simp] theorem State.withConv_isel : (s.withConv x).isel = s.isel := rfl
@[simp] theorem State.withConv_conv : (s.withConv x).conv = x := rfl
@[simp] theorem State.withConv_seq : (s.withConv x).seq = s.seq := rfl
@[simp] theorem State.withConv_subt : (s.withConv x).subt = s.subt := rfl
@[simp] theorem State.withConv_asu : (s.withConv x).asu = s.asu := rfl
@[simp] theorem State.withConv_wtu : (s.withConv x).wtu = s.wtu := rfl
@[simp] theorem State.withConv_tripc : (s.withConv x).tripc = s.tripc := rfl
@[simp] theorem State.withConv_dlv : (s.withConv x).dlv = s.dlv := rfl
@[simp] theorem State.withConv_hpc : (s.withConv x).hpc = s.hpc := rfl
@[simp] theorem State.withConv_resetting : (s.withConv x).resetting = s.resetting := rfl
@[simp] theorem State.withConv_freeCount : (s.withConv x).freeCount = s.freeCount := rfl
@[simp] theorem State.withConv_pending : (s.withConv x).pending = s.pending := rfl
@[simp] theorem State.withConv_input (k : InputNo) : (s.withConv x).input k = s.input k := rfl
@[simp] theorem State.withConv_record (i : SubId) : (s.withConv x).record i = s.record i := rfl
@[simp] theorem State.withConv_window (i : SubId) : (s.withConv x).window i = s.window i := rfl
@[simp] theorem State.withConv_profile (p : ProfileNo) : (s.withConv x).profile p = s.profile p := rfl
@[simp] theorem State.withConv_watch (i : SubId) : (s.withConv x).watch i = s.watch i := rfl
@[simp] theorem State.withConv_alarms (t : LineNo) : (s.withConv x).alarms t = s.alarms t := rfl
@[simp] theorem State.withConv_line (t : LineNo) : (s.withConv x).line t = s.line t := rfl
@[simp] theorem State.withConv_queues (n : Port) : (s.withConv x).queues n = s.queues n := rfl
@[simp] theorem State.withConv_port (n : Port) : (s.withConv x).port n = s.port n := rfl
end

section
variable (s : State) (x : Seq)
@[simp] theorem State.withSeq_isel : (s.withSeq x).isel = s.isel := rfl
@[simp] theorem State.withSeq_conv : (s.withSeq x).conv = s.conv := rfl
@[simp] theorem State.withSeq_seq : (s.withSeq x).seq = x := rfl
@[simp] theorem State.withSeq_subt : (s.withSeq x).subt = s.subt := rfl
@[simp] theorem State.withSeq_asu : (s.withSeq x).asu = s.asu := rfl
@[simp] theorem State.withSeq_wtu : (s.withSeq x).wtu = s.wtu := rfl
@[simp] theorem State.withSeq_tripc : (s.withSeq x).tripc = s.tripc := rfl
@[simp] theorem State.withSeq_dlv : (s.withSeq x).dlv = s.dlv := rfl
@[simp] theorem State.withSeq_hpc : (s.withSeq x).hpc = s.hpc := rfl
@[simp] theorem State.withSeq_resetting : (s.withSeq x).resetting = s.resetting := rfl
@[simp] theorem State.withSeq_freeCount : (s.withSeq x).freeCount = s.freeCount := rfl
@[simp] theorem State.withSeq_pending : (s.withSeq x).pending = s.pending := rfl
@[simp] theorem State.withSeq_input (k : InputNo) : (s.withSeq x).input k = s.input k := rfl
@[simp] theorem State.withSeq_record (i : SubId) : (s.withSeq x).record i = s.record i := rfl
@[simp] theorem State.withSeq_window (i : SubId) : (s.withSeq x).window i = s.window i := rfl
@[simp] theorem State.withSeq_profile (p : ProfileNo) : (s.withSeq x).profile p = s.profile p := rfl
@[simp] theorem State.withSeq_watch (i : SubId) : (s.withSeq x).watch i = s.watch i := rfl
@[simp] theorem State.withSeq_alarms (t : LineNo) : (s.withSeq x).alarms t = s.alarms t := rfl
@[simp] theorem State.withSeq_line (t : LineNo) : (s.withSeq x).line t = s.line t := rfl
@[simp] theorem State.withSeq_queues (n : Port) : (s.withSeq x).queues n = s.queues n := rfl
@[simp] theorem State.withSeq_port (n : Port) : (s.withSeq x).port n = s.port n := rfl
end

section
variable (s : State) (x : Subt)
@[simp] theorem State.withSubt_isel : (s.withSubt x).isel = s.isel := rfl
@[simp] theorem State.withSubt_conv : (s.withSubt x).conv = s.conv := rfl
@[simp] theorem State.withSubt_seq : (s.withSubt x).seq = s.seq := rfl
@[simp] theorem State.withSubt_subt : (s.withSubt x).subt = x := rfl
@[simp] theorem State.withSubt_asu : (s.withSubt x).asu = s.asu := rfl
@[simp] theorem State.withSubt_wtu : (s.withSubt x).wtu = s.wtu := rfl
@[simp] theorem State.withSubt_tripc : (s.withSubt x).tripc = s.tripc := rfl
@[simp] theorem State.withSubt_dlv : (s.withSubt x).dlv = s.dlv := rfl
@[simp] theorem State.withSubt_hpc : (s.withSubt x).hpc = s.hpc := rfl
@[simp] theorem State.withSubt_resetting : (s.withSubt x).resetting = s.resetting := rfl
@[simp] theorem State.withSubt_freeCount : (s.withSubt x).freeCount = s.freeCount := rfl
@[simp] theorem State.withSubt_pending : (s.withSubt x).pending = s.pending := rfl
@[simp] theorem State.withSubt_input (k : InputNo) : (s.withSubt x).input k = s.input k := rfl
@[simp] theorem State.withSubt_window (i : SubId) : (s.withSubt x).window i = s.window i := rfl
@[simp] theorem State.withSubt_profile (p : ProfileNo) : (s.withSubt x).profile p = s.profile p := rfl
@[simp] theorem State.withSubt_watch (i : SubId) : (s.withSubt x).watch i = s.watch i := rfl
@[simp] theorem State.withSubt_alarms (t : LineNo) : (s.withSubt x).alarms t = s.alarms t := rfl
@[simp] theorem State.withSubt_line (t : LineNo) : (s.withSubt x).line t = s.line t := rfl
@[simp] theorem State.withSubt_queues (n : Port) : (s.withSubt x).queues n = s.queues n := rfl
@[simp] theorem State.withSubt_port (n : Port) : (s.withSubt x).port n = s.port n := rfl
end

section
variable (s : State) (x : Asu)
@[simp] theorem State.withAsu_isel : (s.withAsu x).isel = s.isel := rfl
@[simp] theorem State.withAsu_conv : (s.withAsu x).conv = s.conv := rfl
@[simp] theorem State.withAsu_seq : (s.withAsu x).seq = s.seq := rfl
@[simp] theorem State.withAsu_subt : (s.withAsu x).subt = s.subt := rfl
@[simp] theorem State.withAsu_asu : (s.withAsu x).asu = x := rfl
@[simp] theorem State.withAsu_wtu : (s.withAsu x).wtu = s.wtu := rfl
@[simp] theorem State.withAsu_tripc : (s.withAsu x).tripc = s.tripc := rfl
@[simp] theorem State.withAsu_dlv : (s.withAsu x).dlv = s.dlv := rfl
@[simp] theorem State.withAsu_hpc : (s.withAsu x).hpc = s.hpc := rfl
@[simp] theorem State.withAsu_resetting : (s.withAsu x).resetting = s.resetting := rfl
@[simp] theorem State.withAsu_freeCount : (s.withAsu x).freeCount = s.freeCount := rfl
@[simp] theorem State.withAsu_pending : (s.withAsu x).pending = s.pending := rfl
@[simp] theorem State.withAsu_input (k : InputNo) : (s.withAsu x).input k = s.input k := rfl
@[simp] theorem State.withAsu_record (i : SubId) : (s.withAsu x).record i = s.record i := rfl
@[simp] theorem State.withAsu_watch (i : SubId) : (s.withAsu x).watch i = s.watch i := rfl
@[simp] theorem State.withAsu_alarms (t : LineNo) : (s.withAsu x).alarms t = s.alarms t := rfl
@[simp] theorem State.withAsu_line (t : LineNo) : (s.withAsu x).line t = s.line t := rfl
@[simp] theorem State.withAsu_queues (n : Port) : (s.withAsu x).queues n = s.queues n := rfl
@[simp] theorem State.withAsu_port (n : Port) : (s.withAsu x).port n = s.port n := rfl
end

section
variable (s : State) (x : Wtu)
@[simp] theorem State.withWtu_isel : (s.withWtu x).isel = s.isel := rfl
@[simp] theorem State.withWtu_conv : (s.withWtu x).conv = s.conv := rfl
@[simp] theorem State.withWtu_seq : (s.withWtu x).seq = s.seq := rfl
@[simp] theorem State.withWtu_subt : (s.withWtu x).subt = s.subt := rfl
@[simp] theorem State.withWtu_asu : (s.withWtu x).asu = s.asu := rfl
@[simp] theorem State.withWtu_wtu : (s.withWtu x).wtu = x := rfl
@[simp] theorem State.withWtu_tripc : (s.withWtu x).tripc = s.tripc := rfl
@[simp] theorem State.withWtu_dlv : (s.withWtu x).dlv = s.dlv := rfl
@[simp] theorem State.withWtu_hpc : (s.withWtu x).hpc = s.hpc := rfl
@[simp] theorem State.withWtu_resetting : (s.withWtu x).resetting = s.resetting := rfl
@[simp] theorem State.withWtu_freeCount : (s.withWtu x).freeCount = s.freeCount := rfl
@[simp] theorem State.withWtu_pending : (s.withWtu x).pending = s.pending := rfl
@[simp] theorem State.withWtu_input (k : InputNo) : (s.withWtu x).input k = s.input k := rfl
@[simp] theorem State.withWtu_record (i : SubId) : (s.withWtu x).record i = s.record i := rfl
@[simp] theorem State.withWtu_window (i : SubId) : (s.withWtu x).window i = s.window i := rfl
@[simp] theorem State.withWtu_profile (p : ProfileNo) : (s.withWtu x).profile p = s.profile p := rfl
@[simp] theorem State.withWtu_line (t : LineNo) : (s.withWtu x).line t = s.line t := rfl
@[simp] theorem State.withWtu_queues (n : Port) : (s.withWtu x).queues n = s.queues n := rfl
@[simp] theorem State.withWtu_port (n : Port) : (s.withWtu x).port n = s.port n := rfl
end

section
variable (s : State) (x : Tripc)
@[simp] theorem State.withTripc_isel : (s.withTripc x).isel = s.isel := rfl
@[simp] theorem State.withTripc_conv : (s.withTripc x).conv = s.conv := rfl
@[simp] theorem State.withTripc_seq : (s.withTripc x).seq = s.seq := rfl
@[simp] theorem State.withTripc_subt : (s.withTripc x).subt = s.subt := rfl
@[simp] theorem State.withTripc_asu : (s.withTripc x).asu = s.asu := rfl
@[simp] theorem State.withTripc_wtu : (s.withTripc x).wtu = s.wtu := rfl
@[simp] theorem State.withTripc_tripc : (s.withTripc x).tripc = x := rfl
@[simp] theorem State.withTripc_dlv : (s.withTripc x).dlv = s.dlv := rfl
@[simp] theorem State.withTripc_hpc : (s.withTripc x).hpc = s.hpc := rfl
@[simp] theorem State.withTripc_resetting : (s.withTripc x).resetting = s.resetting := rfl
@[simp] theorem State.withTripc_freeCount : (s.withTripc x).freeCount = s.freeCount := rfl
@[simp] theorem State.withTripc_pending : (s.withTripc x).pending = s.pending := rfl
@[simp] theorem State.withTripc_input (k : InputNo) : (s.withTripc x).input k = s.input k := rfl
@[simp] theorem State.withTripc_record (i : SubId) : (s.withTripc x).record i = s.record i := rfl
@[simp] theorem State.withTripc_window (i : SubId) : (s.withTripc x).window i = s.window i := rfl
@[simp] theorem State.withTripc_profile (p : ProfileNo) : (s.withTripc x).profile p = s.profile p := rfl
@[simp] theorem State.withTripc_watch (i : SubId) : (s.withTripc x).watch i = s.watch i := rfl
@[simp] theorem State.withTripc_alarms (t : LineNo) : (s.withTripc x).alarms t = s.alarms t := rfl
@[simp] theorem State.withTripc_queues (n : Port) : (s.withTripc x).queues n = s.queues n := rfl
@[simp] theorem State.withTripc_port (n : Port) : (s.withTripc x).port n = s.port n := rfl
end

section
variable (s : State) (x : Dlv)
@[simp] theorem State.withDlv_isel : (s.withDlv x).isel = s.isel := rfl
@[simp] theorem State.withDlv_conv : (s.withDlv x).conv = s.conv := rfl
@[simp] theorem State.withDlv_seq : (s.withDlv x).seq = s.seq := rfl
@[simp] theorem State.withDlv_subt : (s.withDlv x).subt = s.subt := rfl
@[simp] theorem State.withDlv_asu : (s.withDlv x).asu = s.asu := rfl
@[simp] theorem State.withDlv_wtu : (s.withDlv x).wtu = s.wtu := rfl
@[simp] theorem State.withDlv_tripc : (s.withDlv x).tripc = s.tripc := rfl
@[simp] theorem State.withDlv_dlv : (s.withDlv x).dlv = x := rfl
@[simp] theorem State.withDlv_hpc : (s.withDlv x).hpc = s.hpc := rfl
@[simp] theorem State.withDlv_resetting : (s.withDlv x).resetting = s.resetting := rfl
@[simp] theorem State.withDlv_freeCount : (s.withDlv x).freeCount = s.freeCount := rfl
@[simp] theorem State.withDlv_pending : (s.withDlv x).pending = s.pending := rfl
@[simp] theorem State.withDlv_input (k : InputNo) : (s.withDlv x).input k = s.input k := rfl
@[simp] theorem State.withDlv_record (i : SubId) : (s.withDlv x).record i = s.record i := rfl
@[simp] theorem State.withDlv_window (i : SubId) : (s.withDlv x).window i = s.window i := rfl
@[simp] theorem State.withDlv_profile (p : ProfileNo) : (s.withDlv x).profile p = s.profile p := rfl
@[simp] theorem State.withDlv_watch (i : SubId) : (s.withDlv x).watch i = s.watch i := rfl
@[simp] theorem State.withDlv_alarms (t : LineNo) : (s.withDlv x).alarms t = s.alarms t := rfl
@[simp] theorem State.withDlv_line (t : LineNo) : (s.withDlv x).line t = s.line t := rfl
@[simp] theorem State.withDlv_port (n : Port) : (s.withDlv x).port n = s.port n := rfl
end

section
variable (s : State) (x : Vector PortCtl 3)
@[simp] theorem State.withHpc_isel : (s.withHpc x).isel = s.isel := rfl
@[simp] theorem State.withHpc_conv : (s.withHpc x).conv = s.conv := rfl
@[simp] theorem State.withHpc_seq : (s.withHpc x).seq = s.seq := rfl
@[simp] theorem State.withHpc_subt : (s.withHpc x).subt = s.subt := rfl
@[simp] theorem State.withHpc_asu : (s.withHpc x).asu = s.asu := rfl
@[simp] theorem State.withHpc_wtu : (s.withHpc x).wtu = s.wtu := rfl
@[simp] theorem State.withHpc_tripc : (s.withHpc x).tripc = s.tripc := rfl
@[simp] theorem State.withHpc_dlv : (s.withHpc x).dlv = s.dlv := rfl
@[simp] theorem State.withHpc_hpc : (s.withHpc x).hpc = x := rfl
@[simp] theorem State.withHpc_resetting : (s.withHpc x).resetting = s.resetting := rfl
@[simp] theorem State.withHpc_freeCount : (s.withHpc x).freeCount = s.freeCount := rfl
@[simp] theorem State.withHpc_pending : (s.withHpc x).pending = s.pending := rfl
@[simp] theorem State.withHpc_input (k : InputNo) : (s.withHpc x).input k = s.input k := rfl
@[simp] theorem State.withHpc_record (i : SubId) : (s.withHpc x).record i = s.record i := rfl
@[simp] theorem State.withHpc_window (i : SubId) : (s.withHpc x).window i = s.window i := rfl
@[simp] theorem State.withHpc_profile (p : ProfileNo) : (s.withHpc x).profile p = s.profile p := rfl
@[simp] theorem State.withHpc_watch (i : SubId) : (s.withHpc x).watch i = s.watch i := rfl
@[simp] theorem State.withHpc_alarms (t : LineNo) : (s.withHpc x).alarms t = s.alarms t := rfl
@[simp] theorem State.withHpc_line (t : LineNo) : (s.withHpc x).line t = s.line t := rfl
@[simp] theorem State.withHpc_queues (n : Port) : (s.withHpc x).queues n = s.queues n := rfl
end

section
variable (s : State) (x : List Instr)
@[simp] theorem State.withPending_isel : (s.withPending x).isel = s.isel := rfl
@[simp] theorem State.withPending_conv : (s.withPending x).conv = s.conv := rfl
@[simp] theorem State.withPending_seq : (s.withPending x).seq = s.seq := rfl
@[simp] theorem State.withPending_subt : (s.withPending x).subt = s.subt := rfl
@[simp] theorem State.withPending_asu : (s.withPending x).asu = s.asu := rfl
@[simp] theorem State.withPending_wtu : (s.withPending x).wtu = s.wtu := rfl
@[simp] theorem State.withPending_tripc : (s.withPending x).tripc = s.tripc := rfl
@[simp] theorem State.withPending_dlv : (s.withPending x).dlv = s.dlv := rfl
@[simp] theorem State.withPending_hpc : (s.withPending x).hpc = s.hpc := rfl
@[simp] theorem State.withPending_resetting : (s.withPending x).resetting = s.resetting := rfl
@[simp] theorem State.withPending_freeCount : (s.withPending x).freeCount = s.freeCount := rfl
@[simp] theorem State.withPending_pending : (s.withPending x).pending = x := rfl
@[simp] theorem State.withPending_input (k : InputNo) : (s.withPending x).input k = s.input k := rfl
@[simp] theorem State.withPending_record (i : SubId) : (s.withPending x).record i = s.record i := rfl
@[simp] theorem State.withPending_window (i : SubId) : (s.withPending x).window i = s.window i := rfl
@[simp] theorem State.withPending_profile (p : ProfileNo) : (s.withPending x).profile p = s.profile p := rfl
@[simp] theorem State.withPending_watch (i : SubId) : (s.withPending x).watch i = s.watch i := rfl
@[simp] theorem State.withPending_alarms (t : LineNo) : (s.withPending x).alarms t = s.alarms t := rfl
@[simp] theorem State.withPending_line (t : LineNo) : (s.withPending x).line t = s.line t := rfl
@[simp] theorem State.withPending_queues (n : Port) : (s.withPending x).queues n = s.queues n := rfl
@[simp] theorem State.withPending_port (n : Port) : (s.withPending x).port n = s.port n := rfl
end

/-! ### Updates of one entry -/

section
variable (s : State) (j : InputNo) (x : InputRecord)
@[simp] theorem State.setInput_isel :
    (s.setInput j x).isel = { s.isel with inputs := put s.isel.inputs j x } := rfl
@[simp] theorem State.setInput_conv : (s.setInput j x).conv = s.conv := rfl
@[simp] theorem State.setInput_seq : (s.setInput j x).seq = s.seq := rfl
@[simp] theorem State.setInput_subt : (s.setInput j x).subt = s.subt := rfl
@[simp] theorem State.setInput_asu : (s.setInput j x).asu = s.asu := rfl
@[simp] theorem State.setInput_wtu : (s.setInput j x).wtu = s.wtu := rfl
@[simp] theorem State.setInput_tripc : (s.setInput j x).tripc = s.tripc := rfl
@[simp] theorem State.setInput_dlv : (s.setInput j x).dlv = s.dlv := rfl
@[simp] theorem State.setInput_hpc : (s.setInput j x).hpc = s.hpc := rfl
@[simp] theorem State.setInput_resetting : (s.setInput j x).resetting = s.resetting := rfl
@[simp] theorem State.setInput_freeCount : (s.setInput j x).freeCount = s.freeCount := rfl
@[simp] theorem State.setInput_pending : (s.setInput j x).pending = s.pending := rfl
@[simp] theorem State.setInput_record_kept (i : SubId) : (s.setInput j x).record i = s.record i := rfl
@[simp] theorem State.setInput_window_kept (i : SubId) : (s.setInput j x).window i = s.window i := rfl
@[simp] theorem State.setInput_profile_kept (p : ProfileNo) : (s.setInput j x).profile p = s.profile p := rfl
@[simp] theorem State.setInput_watch_kept (i : SubId) : (s.setInput j x).watch i = s.watch i := rfl
@[simp] theorem State.setInput_alarms_kept (t : LineNo) : (s.setInput j x).alarms t = s.alarms t := rfl
@[simp] theorem State.setInput_line_kept (t : LineNo) : (s.setInput j x).line t = s.line t := rfl
@[simp] theorem State.setInput_queues_kept (n : Port) : (s.setInput j x).queues n = s.queues n := rfl
@[simp] theorem State.setInput_port_kept (n : Port) : (s.setInput j x).port n = s.port n := rfl
end

section
variable (s : State) (j : SubId) (x : Option Window)
@[simp] theorem State.setWindow_isel : (s.setWindow j x).isel = s.isel := rfl
@[simp] theorem State.setWindow_conv : (s.setWindow j x).conv = s.conv := rfl
@[simp] theorem State.setWindow_seq : (s.setWindow j x).seq = s.seq := rfl
@[simp] theorem State.setWindow_subt : (s.setWindow j x).subt = s.subt := rfl
@[simp] theorem State.setWindow_asu :
    (s.setWindow j x).asu = { s.asu with windows := put s.asu.windows j x } := rfl
@[simp] theorem State.setWindow_wtu : (s.setWindow j x).wtu = s.wtu := rfl
@[simp] theorem State.setWindow_tripc : (s.setWindow j x).tripc = s.tripc := rfl
@[simp] theorem State.setWindow_dlv : (s.setWindow j x).dlv = s.dlv := rfl
@[simp] theorem State.setWindow_hpc : (s.setWindow j x).hpc = s.hpc := rfl
@[simp] theorem State.setWindow_resetting : (s.setWindow j x).resetting = s.resetting := rfl
@[simp] theorem State.setWindow_freeCount : (s.setWindow j x).freeCount = s.freeCount := rfl
@[simp] theorem State.setWindow_pending : (s.setWindow j x).pending = s.pending := rfl
@[simp] theorem State.setWindow_input_kept (k : InputNo) : (s.setWindow j x).input k = s.input k := rfl
@[simp] theorem State.setWindow_record_kept (i : SubId) : (s.setWindow j x).record i = s.record i := rfl
@[simp] theorem State.setWindow_profile_kept (p : ProfileNo) : (s.setWindow j x).profile p = s.profile p := rfl
@[simp] theorem State.setWindow_watch_kept (i : SubId) : (s.setWindow j x).watch i = s.watch i := rfl
@[simp] theorem State.setWindow_alarms_kept (t : LineNo) : (s.setWindow j x).alarms t = s.alarms t := rfl
@[simp] theorem State.setWindow_line_kept (t : LineNo) : (s.setWindow j x).line t = s.line t := rfl
@[simp] theorem State.setWindow_queues_kept (n : Port) : (s.setWindow j x).queues n = s.queues n := rfl
@[simp] theorem State.setWindow_port_kept (n : Port) : (s.setWindow j x).port n = s.port n := rfl
end

section
variable (s : State) (j : ProfileNo) (x : Profile)
@[simp] theorem State.setProfile_isel : (s.setProfile j x).isel = s.isel := rfl
@[simp] theorem State.setProfile_conv : (s.setProfile j x).conv = s.conv := rfl
@[simp] theorem State.setProfile_seq : (s.setProfile j x).seq = s.seq := rfl
@[simp] theorem State.setProfile_subt : (s.setProfile j x).subt = s.subt := rfl
@[simp] theorem State.setProfile_asu :
    (s.setProfile j x).asu = { s.asu with profiles := put s.asu.profiles j x } := rfl
@[simp] theorem State.setProfile_wtu : (s.setProfile j x).wtu = s.wtu := rfl
@[simp] theorem State.setProfile_tripc : (s.setProfile j x).tripc = s.tripc := rfl
@[simp] theorem State.setProfile_dlv : (s.setProfile j x).dlv = s.dlv := rfl
@[simp] theorem State.setProfile_hpc : (s.setProfile j x).hpc = s.hpc := rfl
@[simp] theorem State.setProfile_resetting : (s.setProfile j x).resetting = s.resetting := rfl
@[simp] theorem State.setProfile_freeCount : (s.setProfile j x).freeCount = s.freeCount := rfl
@[simp] theorem State.setProfile_pending : (s.setProfile j x).pending = s.pending := rfl
@[simp] theorem State.setProfile_input_kept (k : InputNo) : (s.setProfile j x).input k = s.input k := rfl
@[simp] theorem State.setProfile_record_kept (i : SubId) : (s.setProfile j x).record i = s.record i := rfl
@[simp] theorem State.setProfile_window_kept (i : SubId) : (s.setProfile j x).window i = s.window i := rfl
@[simp] theorem State.setProfile_watch_kept (i : SubId) : (s.setProfile j x).watch i = s.watch i := rfl
@[simp] theorem State.setProfile_alarms_kept (t : LineNo) : (s.setProfile j x).alarms t = s.alarms t := rfl
@[simp] theorem State.setProfile_line_kept (t : LineNo) : (s.setProfile j x).line t = s.line t := rfl
@[simp] theorem State.setProfile_queues_kept (n : Port) : (s.setProfile j x).queues n = s.queues n := rfl
@[simp] theorem State.setProfile_port_kept (n : Port) : (s.setProfile j x).port n = s.port n := rfl
end

section
variable (s : State) (j : LineNo) (x : Line)
@[simp] theorem State.setLine_isel : (s.setLine j x).isel = s.isel := rfl
@[simp] theorem State.setLine_conv : (s.setLine j x).conv = s.conv := rfl
@[simp] theorem State.setLine_seq : (s.setLine j x).seq = s.seq := rfl
@[simp] theorem State.setLine_subt : (s.setLine j x).subt = s.subt := rfl
@[simp] theorem State.setLine_asu : (s.setLine j x).asu = s.asu := rfl
@[simp] theorem State.setLine_wtu : (s.setLine j x).wtu = s.wtu := rfl
@[simp] theorem State.setLine_tripc :
    (s.setLine j x).tripc = { s.tripc with lines := put s.tripc.lines j x } := rfl
@[simp] theorem State.setLine_dlv : (s.setLine j x).dlv = s.dlv := rfl
@[simp] theorem State.setLine_hpc : (s.setLine j x).hpc = s.hpc := rfl
@[simp] theorem State.setLine_resetting : (s.setLine j x).resetting = s.resetting := rfl
@[simp] theorem State.setLine_freeCount : (s.setLine j x).freeCount = s.freeCount := rfl
@[simp] theorem State.setLine_pending : (s.setLine j x).pending = s.pending := rfl
@[simp] theorem State.setLine_input_kept (k : InputNo) : (s.setLine j x).input k = s.input k := rfl
@[simp] theorem State.setLine_record_kept (i : SubId) : (s.setLine j x).record i = s.record i := rfl
@[simp] theorem State.setLine_window_kept (i : SubId) : (s.setLine j x).window i = s.window i := rfl
@[simp] theorem State.setLine_profile_kept (p : ProfileNo) : (s.setLine j x).profile p = s.profile p := rfl
@[simp] theorem State.setLine_watch_kept (i : SubId) : (s.setLine j x).watch i = s.watch i := rfl
@[simp] theorem State.setLine_alarms_kept (t : LineNo) : (s.setLine j x).alarms t = s.alarms t := rfl
@[simp] theorem State.setLine_queues_kept (n : Port) : (s.setLine j x).queues n = s.queues n := rfl
@[simp] theorem State.setLine_port_kept (n : Port) : (s.setLine j x).port n = s.port n := rfl
end

section
variable (s : State) (j : SubId) (x : Option SampleRecord)
@[simp] theorem State.setLatest_isel : (s.setLatest j x).isel = s.isel := rfl
@[simp] theorem State.setLatest_conv : (s.setLatest j x).conv = s.conv := rfl
@[simp] theorem State.setLatest_seq : (s.setLatest j x).seq = s.seq := rfl
@[simp] theorem State.setLatest_subt : (s.setLatest j x).subt = s.subt := rfl
@[simp] theorem State.setLatest_asu : (s.setLatest j x).asu = s.asu := rfl
@[simp] theorem State.setLatest_wtu : (s.setLatest j x).wtu = s.wtu := rfl
@[simp] theorem State.setLatest_tripc : (s.setLatest j x).tripc = s.tripc := rfl
@[simp] theorem State.setLatest_dlv :
    (s.setLatest j x).dlv = { s.dlv with latest := put s.dlv.latest j x } := rfl
@[simp] theorem State.setLatest_hpc : (s.setLatest j x).hpc = s.hpc := rfl
@[simp] theorem State.setLatest_resetting : (s.setLatest j x).resetting = s.resetting := rfl
@[simp] theorem State.setLatest_freeCount : (s.setLatest j x).freeCount = s.freeCount := rfl
@[simp] theorem State.setLatest_pending : (s.setLatest j x).pending = s.pending := rfl
@[simp] theorem State.setLatest_input_kept (k : InputNo) : (s.setLatest j x).input k = s.input k := rfl
@[simp] theorem State.setLatest_record_kept (i : SubId) : (s.setLatest j x).record i = s.record i := rfl
@[simp] theorem State.setLatest_window_kept (i : SubId) : (s.setLatest j x).window i = s.window i := rfl
@[simp] theorem State.setLatest_profile_kept (p : ProfileNo) : (s.setLatest j x).profile p = s.profile p := rfl
@[simp] theorem State.setLatest_watch_kept (i : SubId) : (s.setLatest j x).watch i = s.watch i := rfl
@[simp] theorem State.setLatest_alarms_kept (t : LineNo) : (s.setLatest j x).alarms t = s.alarms t := rfl
@[simp] theorem State.setLatest_line_kept (t : LineNo) : (s.setLatest j x).line t = s.line t := rfl
@[simp] theorem State.setLatest_queues_kept (n : Port) : (s.setLatest j x).queues n = s.queues n := rfl
@[simp] theorem State.setLatest_port_kept (n : Port) : (s.setLatest j x).port n = s.port n := rfl
end

section
variable (s : State) (j : Port) (x : PortQueues)
@[simp] theorem State.setQueues_isel : (s.setQueues j x).isel = s.isel := rfl
@[simp] theorem State.setQueues_conv : (s.setQueues j x).conv = s.conv := rfl
@[simp] theorem State.setQueues_seq : (s.setQueues j x).seq = s.seq := rfl
@[simp] theorem State.setQueues_subt : (s.setQueues j x).subt = s.subt := rfl
@[simp] theorem State.setQueues_asu : (s.setQueues j x).asu = s.asu := rfl
@[simp] theorem State.setQueues_wtu : (s.setQueues j x).wtu = s.wtu := rfl
@[simp] theorem State.setQueues_tripc : (s.setQueues j x).tripc = s.tripc := rfl
@[simp] theorem State.setQueues_dlv :
    (s.setQueues j x).dlv = { s.dlv with queues := put s.dlv.queues j x } := rfl
@[simp] theorem State.setQueues_hpc : (s.setQueues j x).hpc = s.hpc := rfl
@[simp] theorem State.setQueues_resetting : (s.setQueues j x).resetting = s.resetting := rfl
@[simp] theorem State.setQueues_freeCount : (s.setQueues j x).freeCount = s.freeCount := rfl
@[simp] theorem State.setQueues_pending : (s.setQueues j x).pending = s.pending := rfl
@[simp] theorem State.setQueues_input_kept (k : InputNo) : (s.setQueues j x).input k = s.input k := rfl
@[simp] theorem State.setQueues_record_kept (i : SubId) : (s.setQueues j x).record i = s.record i := rfl
@[simp] theorem State.setQueues_window_kept (i : SubId) : (s.setQueues j x).window i = s.window i := rfl
@[simp] theorem State.setQueues_profile_kept (p : ProfileNo) : (s.setQueues j x).profile p = s.profile p := rfl
@[simp] theorem State.setQueues_watch_kept (i : SubId) : (s.setQueues j x).watch i = s.watch i := rfl
@[simp] theorem State.setQueues_alarms_kept (t : LineNo) : (s.setQueues j x).alarms t = s.alarms t := rfl
@[simp] theorem State.setQueues_line_kept (t : LineNo) : (s.setQueues j x).line t = s.line t := rfl
@[simp] theorem State.setQueues_port_kept (n : Port) : (s.setQueues j x).port n = s.port n := rfl
end

section
variable (s : State) (j : Port) (x : PortCtl)
@[simp] theorem State.setPort_isel : (s.setPort j x).isel = s.isel := rfl
@[simp] theorem State.setPort_conv : (s.setPort j x).conv = s.conv := rfl
@[simp] theorem State.setPort_seq : (s.setPort j x).seq = s.seq := rfl
@[simp] theorem State.setPort_subt : (s.setPort j x).subt = s.subt := rfl
@[simp] theorem State.setPort_asu : (s.setPort j x).asu = s.asu := rfl
@[simp] theorem State.setPort_wtu : (s.setPort j x).wtu = s.wtu := rfl
@[simp] theorem State.setPort_tripc : (s.setPort j x).tripc = s.tripc := rfl
@[simp] theorem State.setPort_dlv : (s.setPort j x).dlv = s.dlv := rfl
@[simp] theorem State.setPort_hpc : (s.setPort j x).hpc = put s.hpc j x := rfl
@[simp] theorem State.setPort_resetting : (s.setPort j x).resetting = s.resetting := rfl
@[simp] theorem State.setPort_freeCount : (s.setPort j x).freeCount = s.freeCount := rfl
@[simp] theorem State.setPort_pending : (s.setPort j x).pending = s.pending := rfl
@[simp] theorem State.setPort_input_kept (k : InputNo) : (s.setPort j x).input k = s.input k := rfl
@[simp] theorem State.setPort_record_kept (i : SubId) : (s.setPort j x).record i = s.record i := rfl
@[simp] theorem State.setPort_window_kept (i : SubId) : (s.setPort j x).window i = s.window i := rfl
@[simp] theorem State.setPort_profile_kept (p : ProfileNo) : (s.setPort j x).profile p = s.profile p := rfl
@[simp] theorem State.setPort_watch_kept (i : SubId) : (s.setPort j x).watch i = s.watch i := rfl
@[simp] theorem State.setPort_alarms_kept (t : LineNo) : (s.setPort j x).alarms t = s.alarms t := rfl
@[simp] theorem State.setPort_line_kept (t : LineNo) : (s.setPort j x).line t = s.line t := rfl
@[simp] theorem State.setPort_queues_kept (n : Port) : (s.setPort j x).queues n = s.queues n := rfl
end

/-! ### The free value and the spot queue -/

section
variable (s : State) (l : List SpotEntry)
@[simp] theorem State.useFree_isel : s.useFree.isel = s.isel := rfl
@[simp] theorem State.useFree_conv : s.useFree.conv = s.conv := rfl
@[simp] theorem State.useFree_seq : s.useFree.seq = s.seq := rfl
@[simp] theorem State.useFree_subt : s.useFree.subt = s.subt := rfl
@[simp] theorem State.useFree_asu : s.useFree.asu = s.asu := rfl
@[simp] theorem State.useFree_wtu : s.useFree.wtu = s.wtu := rfl
@[simp] theorem State.useFree_tripc : s.useFree.tripc = s.tripc := rfl
@[simp] theorem State.useFree_dlv : s.useFree.dlv = s.dlv := rfl
@[simp] theorem State.useFree_hpc : s.useFree.hpc = s.hpc := rfl
@[simp] theorem State.useFree_resetting : s.useFree.resetting = s.resetting := rfl
@[simp] theorem State.useFree_freeCount : s.useFree.freeCount = s.freeCount + 1 := rfl
@[simp] theorem State.useFree_pending : s.useFree.pending = s.pending := rfl
@[simp] theorem setSpots_isel : (setSpots l s).isel = s.isel := rfl
@[simp] theorem setSpots_conv : (setSpots l s).conv = s.conv := rfl
@[simp] theorem setSpots_seq : (setSpots l s).seq = { s.seq with spots := l } := rfl
@[simp] theorem setSpots_subt : (setSpots l s).subt = s.subt := rfl
@[simp] theorem setSpots_asu : (setSpots l s).asu = s.asu := rfl
@[simp] theorem setSpots_wtu : (setSpots l s).wtu = s.wtu := rfl
@[simp] theorem setSpots_tripc : (setSpots l s).tripc = s.tripc := rfl
@[simp] theorem setSpots_dlv : (setSpots l s).dlv = s.dlv := rfl
@[simp] theorem setSpots_hpc : (setSpots l s).hpc = s.hpc := rfl
@[simp] theorem setSpots_resetting : (setSpots l s).resetting = s.resetting := rfl
@[simp] theorem setSpots_freeCount : (setSpots l s).freeCount = s.freeCount := rfl
@[simp] theorem setSpots_pending : (setSpots l s).pending = s.pending := rfl
end

/-! ### The fields of the reset state -/

@[simp] theorem State.reset_pending : State.reset.pending = [] := rfl
@[simp] theorem State.reset_resetting : State.reset.resetting = none := rfl
@[simp] theorem State.reset_seq : State.reset.seq = {} := rfl
@[simp] theorem State.reset_conv : State.reset.conv = {} := rfl

end Sys2Proof.Machine
end

