-- ==== Sys2Proof/Laws/Tables.lean ====
section
/-! SUPPORT. Tables (`tabulate`, `put`), the entries that a replaced entry leaves, and sets of ports. -/

namespace Sys2Proof.Machine

/-! ### Tables -/

section
variable {α : Type} {m : Nat}

/-- An entry of a tabulated table, at a number: the form in which `simp` leaves an index. -/
@[simp] theorem tabulate_getElem_nat (f : Fin m → α) (k : Nat) (h : k < m) :
    (tabulate f)[k] = f ⟨k, h⟩ := by
  simp [tabulate]

theorem tabulate_getElem (f : Fin m → α) (i : Fin m) : (tabulate f)[i] = f i := by simp

/-- An entry of a table after one has been replaced, at a number. -/
@[simp] theorem put_getElem_nat (v : Vector α m) (i : Fin m) (x : α) (k : Nat) (h : k < m) :
    (put v i x)[k] = if i.val = k then x else v[k] := by
  simp [put, Vector.getElem_set]

/-- An entry of a table after one has been replaced. -/
theorem put_getElem (v : Vector α m) (i j : Fin m) (x : α) :
    (put v i x)[j] = if j = i then x else v[j] := by
  simp [Fin.ext_iff, eq_comm]

theorem put_getElem_same (v : Vector α m) (i : Fin m) (x : α) : (put v i x)[i] = x := by simp

theorem put_getElem_other (v : Vector α m) {i j : Fin m} (x : α) (h : j ≠ i) :
    (put v i x)[j] = v[j] := by rw [put_getElem, if_neg h]

/-- Two tables with equal entries are equal. -/
theorem table_ext {v w : Vector α m} (h : ∀ i : Fin m, v[i] = w[i]) : v = w :=
  Vector.ext fun i hi => h ⟨i, hi⟩

@[simp] theorem put_put (v : Vector α m) (i : Fin m) (x y : α) : put (put v i x) i y = put v i y := by
  refine table_ext fun j => ?_
  simp only [put_getElem]
  split <;> rfl

theorem put_self (v : Vector α m) (i : Fin m) : put v i v[i] = v := by
  refine table_ext fun j => ?_
  simp only [put_getElem]
  split <;> simp_all

theorem put_comm (v : Vector α m) {i j : Fin m} (x y : α) (h : i ≠ j) :
    put (put v i x) j y = put (put v j y) i x := by
  refine table_ext fun k => ?_
  simp only [put_getElem]
  split <;> split <;> simp_all

end

/-! ### Entries after a replacement -/

section
variable (s : State)

theorem State.setInput_input (j k : InputNo) (x : InputRecord) :
    (s.setInput j x).input k = if k = j then x else s.input k := put_getElem _ _ _ _

theorem State.setWindow_window (j i : SubId) (x : Option Window) :
    (s.setWindow j x).window i = if i = j then x else s.window i := put_getElem _ _ _ _

theorem State.setProfile_profile (j p : ProfileNo) (x : Profile) :
    (s.setProfile j x).profile p = if p = j then x else s.profile p := put_getElem _ _ _ _

theorem State.setLine_line (j t : LineNo) (x : Line) :
    (s.setLine j x).line t = if t = j then x else s.line t := put_getElem _ _ _ _

theorem State.setQueues_queues (j n : Port) (x : PortQueues) :
    (s.setQueues j x).queues n = if n = j then x else s.queues n := put_getElem _ _ _ _

theorem State.setPort_port (j n : Port) (x : PortCtl) :
    (s.setPort j x).port n = if n = j then x else s.port n := put_getElem _ _ _ _

@[simp] theorem State.setInput_input_same (j : InputNo) (x : InputRecord) :
    (s.setInput j x).input j = x := put_getElem_same _ _ _

@[simp] theorem State.setWindow_window_same (j : SubId) (x : Option Window) :
    (s.setWindow j x).window j = x := put_getElem_same _ _ _

@[simp] theorem State.setProfile_profile_same (j : ProfileNo) (x : Profile) :
    (s.setProfile j x).profile j = x := put_getElem_same _ _ _

@[simp] theorem State.setLine_line_same (j : LineNo) (x : Line) :
    (s.setLine j x).line j = x := put_getElem_same _ _ _

@[simp] theorem State.setQueues_queues_same (j : Port) (x : PortQueues) :
    (s.setQueues j x).queues j = x := put_getElem_same _ _ _

@[simp] theorem State.setPort_port_same (j : Port) (x : PortCtl) :
    (s.setPort j x).port j = x := put_getElem_same _ _ _

end

/-! ### Sets of ports (section 0.7) -/

namespace PortSet

/-- Two sets with the same members are equal. -/
theorem ext_has {a b : PortSet} (h : ∀ n : Port, a.has n = b.has n) : a = b := by
  have h0 := h 0
  have h1 := h 1
  have h2 := h 2
  cases a; cases b; simp_all [has]

theorem has_change (a : PortSet) (n m : Port) (b : Bool) :
    (a.change n b).has m = if m = n then b else a.has m := by
  revert n m; intro n m
  fin_cases n <;> fin_cases m <;> simp [has, change]

@[simp] theorem has_add (a : PortSet) (n m : Port) : (a.add n).has m = (decide (m = n) || a.has m) := by
  by_cases h : m = n <;> simp [add, has_change, h]

@[simp] theorem has_drop (a : PortSet) (n m : Port) : (a.drop n).has m = (decide (m ≠ n) && a.has m) := by
  by_cases h : m = n <;> simp [drop, has_change, h]

@[simp] theorem has_union (a b : PortSet) (m : Port) : (a.union b).has m = (a.has m || b.has m) := by
  fin_cases m <;> simp [has, union]

@[simp] theorem has_all (m : Port) : all.has m = true := by fin_cases m <;> rfl

@[simp] theorem has_empty (m : Port) : empty.has m = false := by fin_cases m <;> rfl

/-- A set is empty exactly when it is the set without members. -/
theorem isEmpty_iff (a : PortSet) : a.isEmpty = true ↔ a = empty := by
  rcases a with ⟨_ | _, _ | _, _ | _⟩ <;> simp [isEmpty, empty]

theorem has_ofOwner (o : Option Port) (m : Port) : (ofOwner o).has m = decide (o = some m) := by
  cases o with
  | none => simp [ofOwner]
  | some n => simp [ofOwner, eq_comm]

end PortSet

end Sys2Proof.Machine
end

