-- ==== Sys2Proof/Laws/Ops.lean ====
section
/-! SUPPORT. What each shared operation does, said once: raising events, the plan table and the use counts,
placing samples, and how a port controller takes a command. Later proofs cite these and do not unfold the
operations. -/

namespace Sys2Proof.Machine

open Sys2Proof.Safety

/-! ### ATTNn and events (R140 to R144) -/

/-- Judging ATTNn changes the flag of that port and nothing else (R144). -/
theorem judgeAttn_eq (n : Port) (s : State) :
    judgeAttn n s =
      s.setQueues n { s.queues n with attn := attnCondition (s.port n) (s.queues n) } := rfl

@[simp] theorem judgeAttn_port (n m : Port) (s : State) : (judgeAttn n s).port m = s.port m := rfl

theorem judgeAttn_queues (n m : Port) (s : State) :
    (judgeAttn n s).queues m =
      if m = n then { s.queues n with attn := attnCondition (s.port n) (s.queues n) } else s.queues m :=
  put_getElem _ _ _ _

/-- The share of port n in an event, as an update of the queues alone (R141, R142, R144). -/
theorem placeEvent_eq (a : Announced) (fn : FrameNo) (n : Port) (s : State) :
    placeEvent a.audience (a.entry fn) n s =
      { s with dlv := { s.dlv with queues := put s.dlv.queues n (queuesAfter fn [a] s n) } } := by
  have hself : put s.dlv.queues n (s.queues n) = s.dlv.queues := put_self _ _
  by_cases h : reaches s n a = true
  · have h' : (a.audience.has n && attached s n && (s.port n).mask.lets (a.entry fn).code) = true := h
    rw [placeEvent, if_pos h']
    simp [judgeAttn, State.setQueues, State.withDlv, queuesAfter, eventsAfter, h, State.queues,
      State.port]
  · have h' : ¬ (a.audience.has n && attached s n && (s.port n).mask.lets (a.entry fn).code) = true := h
    rw [placeEvent, if_neg h']
    simp [queuesAfter, eventsAfter, h, hself]

/-- Whether an event reaches a port depends on the port controllers alone. -/
theorem reaches_congr {s t : State} (h : s.hpc = t.hpc) (m : Port) (a : Announced) :
    reaches s m a = reaches t m a := by
  simp [reaches, attached, State.port, h]

/-- What events leave in a port's queues depends on its queues and the port controllers alone. -/
theorem queuesAfter_congr {s t : State} (fn : FrameNo) (l : List Announced) (m : Port)
    (hp : s.hpc = t.hpc) (hq : s.queues m = t.queues m) :
    queuesAfter fn l s m = queuesAfter fn l t m := by
  have hr : reaches s m = reaches t m := funext fun a => reaches_congr hp m a
  simp [queuesAfter, eventsAfter, hr, hq, State.port, hp]

/-- Raising an event leaves exactly that event in the queues (R140, R141). -/
theorem raise_eq (a : PortSet) (c : EventCode) (b : Byte) (d : BitVec 16) (s : State) :
    raise a c b d s = afterEvents [⟨a, c, b, d⟩] s := by
  have e (n : Port) (s' : State) : placeEvent a ⟨c, b, s.seq.fn, d, 0, 0⟩ n s' =
      { s' with dlv := { s'.dlv with
        queues := put s'.dlv.queues n (queuesAfter s.seq.fn [⟨a, c, b, d⟩] s' n) } } :=
    placeEvent_eq ⟨a, c, b, d⟩ s.seq.fn n s'
  simp only [raise, e, afterEvents]
  congr 2
  refine table_ext fun m => ?_
  rw [tabulate_getElem]
  simp only [put_getElem]
  fin_cases m
  · simp only [Fin.reduceFinMk, Fin.isValue, Fin.reduceEq, if_false]
    exact queuesAfter_congr _ _ _ rfl rfl
  · simp only [Fin.reduceFinMk, Fin.isValue, Fin.reduceEq, if_false]
    refine queuesAfter_congr _ _ _ rfl ?_
    simp [State.queues]
  · simp only [Fin.reduceFinMk, Fin.isValue, Fin.reduceEq, if_false]
    refine queuesAfter_congr _ _ _ rfl ?_
    simp [State.queues]

/-! What a list of events leaves alone: every field but DLV, and of DLV all but the event queues and
ATTNn. -/

section
variable (l : List Announced) (s : State)

@[simp] theorem afterEvents_isel : (afterEvents l s).isel = s.isel := rfl
@[simp] theorem afterEvents_conv : (afterEvents l s).conv = s.conv := rfl
@[simp] theorem afterEvents_seq : (afterEvents l s).seq = s.seq := rfl
@[simp] theorem afterEvents_subt : (afterEvents l s).subt = s.subt := rfl
@[simp] theorem afterEvents_asu : (afterEvents l s).asu = s.asu := rfl
@[simp] theorem afterEvents_wtu : (afterEvents l s).wtu = s.wtu := rfl
@[simp] theorem afterEvents_tripc : (afterEvents l s).tripc = s.tripc := rfl
@[simp] theorem afterEvents_hpc : (afterEvents l s).hpc = s.hpc := rfl
@[simp] theorem afterEvents_latest : (afterEvents l s).dlv.latest = s.dlv.latest := rfl
@[simp] theorem afterEvents_resetting : (afterEvents l s).resetting = s.resetting := rfl
@[simp] theorem afterEvents_freeCount : (afterEvents l s).freeCount = s.freeCount := rfl
@[simp] theorem afterEvents_pending : (afterEvents l s).pending = s.pending := rfl

@[simp] theorem afterEvents_queues (m : Port) :
    (afterEvents l s).queues m = queuesAfter s.seq.fn l s m := tabulate_getElem _ _

end

theorem queuesAfter_samples (fn : FrameNo) (l : List Announced) (s : State) (m : Port) :
    (queuesAfter fn l s m).samples = (s.queues m).samples := by
  simp only [queuesAfter]; split <;> rfl

theorem queuesAfter_sampleUnacked (fn : FrameNo) (l : List Announced) (s : State) (m : Port) :
    (queuesAfter fn l s m).sampleUnacked = (s.queues m).sampleUnacked := by
  simp only [queuesAfter]; split <;> rfl

theorem queuesAfter_lost (fn : FrameNo) (l : List Announced) (s : State) (m : Port) :
    (queuesAfter fn l s m).lost = (s.queues m).lost := by
  simp only [queuesAfter]; split <;> rfl

theorem queuesAfter_eventUnacked (fn : FrameNo) (l : List Announced) (s : State) (m : Port) :
    (queuesAfter fn l s m).eventUnacked = (s.queues m).eventUnacked := by
  simp only [queuesAfter]; split <;> rfl

theorem queuesAfter_events (fn : FrameNo) (l : List Announced) (s : State) (m : Port) :
    (queuesAfter fn l s m).events = eventsAfter fn l s m := by
  simp only [queuesAfter]; split <;> rfl

/-- After an event that reaches the port, ATTNn is the condition of R144. -/
theorem queuesAfter_attn (fn : FrameNo) (l : List Announced) (s : State) (m : Port) :
    (queuesAfter fn l s m).attn =
      if l.any (reaches s m) = true then
        attnCondition (s.port m) { s.queues m with events := eventsAfter fn l s m }
      else (s.queues m).attn := by
  simp only [queuesAfter]; split <;> rfl

@[simp] theorem queuesAfter_nil (fn : FrameNo) (s : State) (m : Port) :
    queuesAfter fn [] s m = s.queues m := rfl

/-- Events in two groups, one after the other. -/
theorem queuesAfter_append (l k : List Announced) (s : State) (m : Port) :
    queuesAfter s.seq.fn k (afterEvents l s) m = queuesAfter s.seq.fn (l ++ k) s m := by
  have hr : reaches (afterEvents l s) m = reaches s m :=
    funext fun a => reaches_congr (afterEvents_hpc l s) m a
  have he : eventsAfter s.seq.fn k (afterEvents l s) m = eventsAfter s.seq.fn (l ++ k) s m := by
    simp [eventsAfter, hr, queuesAfter_events, List.foldl_append]
  have hp : (afterEvents l s).port m = s.port m := rfl
  by_cases hk : k.any (reaches s m) = true
  · have hlk : (l ++ k).any (reaches s m) = true := by simp only [List.any_append, hk, Bool.or_true]
    simp only [queuesAfter, he, hr, hk, hlk, hp, if_true, afterEvents_queues]
    split <;> rfl
  · have hlk : (l ++ k).any (reaches s m) = l.any (reaches s m) := by
      simp only [List.any_append, Bool.not_eq_true] at *
      simp [hk]
    simp only [queuesAfter, he, hr, hk, hlk, Bool.false_eq_true, if_false, afterEvents_queues]
    have hke : k.filter (reaches s m) = [] := by
      simp only [Bool.not_eq_true, List.any_eq_false] at hk
      simpa using hk
    have hl : eventsAfter s.seq.fn (l ++ k) s m = eventsAfter s.seq.fn l s m := by
      simp [eventsAfter, hke]
    rw [hl]
    split <;> rfl

@[simp] theorem afterEvents_nil (s : State) : afterEvents [] s = s := by
  have h : tabulate (queuesAfter s.seq.fn [] s) = s.dlv.queues :=
    table_ext fun m => by rw [tabulate_getElem]; rfl
  simp only [afterEvents, h]

/-- Events in two groups, one after the other, are the events of both. -/
theorem afterEvents_append (l k : List Announced) (s : State) :
    afterEvents k (afterEvents l s) = afterEvents (l ++ k) s := by
  have h : queuesAfter s.seq.fn k (afterEvents l s) = queuesAfter s.seq.fn (l ++ k) s :=
    funext fun m => queuesAfter_append l k s m
  have hs : (afterEvents l s).seq.fn = s.seq.fn := rfl
  rw [afterEvents, hs, h]
  rfl

/-! ### Use counts and the plan table (R4, R5, R6, R53) -/

@[simp] theorem useUp_input (k j : InputNo) (s : State) :
    (useUp k s).input j =
      if j = k then { s.input k with useCount := (s.input k).useCount + 1 } else s.input j :=
  State.setInput_input _ _ _ _

@[simp] theorem useDown_input (k j : InputNo) (s : State) :
    (useDown k s).input j =
      if j = k then { s.input k with useCount := (s.input k).useCount - 1 } else s.input j :=
  State.setInput_input _ _ _ _

/-- A parameter set claims one at the residues it covers, for its own input (R5). -/
theorem claimAt_some (p : Params) (r : Residue) (k : InputNo) :
    claimAt (some p) r k = if p.covers r = true ∧ k = p.input then 1 else 0 := by
  simp [claimAt, Params.covers, Params.frames]

/-- Adding a reservation adds its claim to every demand count (R5). -/
theorem addClaim_get (c : Option Params) (plan : PlanTable) (r : Residue) (k : InputNo) :
    (addClaim c plan)[r][k] = plan[r][k] + claimAt c r k := by
  cases c with
  | none => simp [addClaim, claimAt]
  | some p =>
    rw [claimAt_some]
    by_cases h : p.covers r = true
    · by_cases hk : k = p.input
      · subst hk; simp [addClaim, h]
      · have : ¬ p.input.val = k.val := fun e => hk (Fin.ext e.symm)
        simp [addClaim, h, hk, this]
    · simp [addClaim, h]

/-- Removing a reservation takes its claim from every demand count (R5). -/
theorem removeClaim_get (c : Option Params) (plan : PlanTable) (r : Residue) (k : InputNo) :
    (removeClaim c plan)[r][k] = plan[r][k] - claimAt c r k := by
  cases c with
  | none => simp [removeClaim, claimAt]
  | some p =>
    rw [claimAt_some]
    by_cases h : p.covers r = true
    · by_cases hk : k = p.input
      · subst hk; simp [removeClaim, h]
      · have : ¬ p.input.val = k.val := fun e => hk (Fin.ext e.symm)
        simp [removeClaim, h, hk, this]
    · simp [removeClaim, h]

/-- The model's admission test is that of R6 against the trial table. -/
theorem admits_iff (s : State) (old : Option Params) (p : Params) :
    admits s (removeClaim old s.subt.plan) p = true ↔ Admitted s old (some p) := by
  simp only [admits, planFits, residues, demanded, inputNos, Admitted, inputsDemanded, trial,
    List.all_eq_true, List.mem_finRange, forall_const, decide_eq_true_eq, addClaim_get,
    removeClaim_get]
  exact Iff.rfl

/-- A record update changes SUBT and the use counts alone; modes, polarities and pins stay (R4, R5). -/
theorem updateRecord_eq (i : SubId) (new : SubRecord) (s : State) :
    updateRecord i new s =
      { s with
        isel := { s.isel with inputs := (updateRecord i new s).isel.inputs },
        subt := { records := put s.subt.records i new, plan := (updateRecord i new s).subt.plan } } := rfl

theorem updateRecord_record (i j : SubId) (new : SubRecord) (s : State) :
    (updateRecord i new s).record j = if j = i then new else s.record j := put_getElem _ _ _ _

theorem updateRecord_plan (i : SubId) (new : SubRecord) (s : State) (r : Residue) (k : InputNo) :
    (updateRecord i new s).subt.plan[r][k] =
      if (s.record i).reserved = new.reserved then s.subt.plan[r][k]
      else trial s (s.record i).reserved new.reserved r k := by
  have h : (updateRecord i new s).subt.plan =
      if (s.record i).reserved = new.reserved then s.subt.plan
      else addClaim new.reserved (removeClaim (s.record i).reserved s.subt.plan) := rfl
  rw [h]
  split
  · rfl
  · rw [addClaim_get, removeClaim_get, trial]

theorem updateRecord_input (i : SubId) (new : SubRecord) (s : State) (k : InputNo) :
    (updateRecord i new s).input k =
      { s.input k with useCount := useAfter (s.record i) new k (s.input k).useCount } :=
  tabulate_getElem _ _

/-- The use counts follow the named inputs of the record (R4). -/
theorem updateRecord_useFollows (i : SubId) (new : SubRecord) (s : State) :
    UseFollows (s.record i) new s (updateRecord i new s) := by
  intro k
  rw [updateRecord_input]
  simp only [useAfter]
  cases new.names k <;> cases (s.record i).names k <;> simp

/-! ### Samples (R132 to R135) -/

/-- A copy of a record for a port changes the sample queue, its counts and ATTNn of that port, when it is
ATTACHED, and nothing else (R132). -/
theorem placeSample_eq (r : SampleRecord) (n : Port) (s : State) :
    placeSample r n s =
      if attached s n = true then
        let q := placeCopy (s.port n).policy r (s.queues n)
        s.setQueues n { q with attn := attnCondition (s.port n) q }
      else s := by
  simp only [placeSample]
  split
  · simp [judgeAttn, State.setQueues, State.withDlv, State.queues, State.port]
  · rfl

theorem placeCopy_events (pol : Policy) (r : SampleRecord) (q : PortQueues) :
    (placeCopy pol r q).events = q.events ∧ (placeCopy pol r q).eventUnacked = q.eventUnacked := by
  simp only [placeCopy]
  split
  · exact ⟨rfl, rfl⟩
  · cases pol <;> exact ⟨rfl, rfl⟩

/-! ### Taking frames and commands (R153 to R157, R163) -/

theorem State.setPort_self (n : Port) (s : State) : s.setPort n (s.port n) = s := by
  have h : put s.hpc n (s.port n) = s.hpc := put_self _ _
  simp [State.setPort, State.withHpc, h]

/-- A well-formed frame restarts the session timer of an ATTACHED port and does nothing else (R163). -/
theorem restartTimer_eq (n : Port) (s : State) :
    restartTimer n s = withPort n (restartedPort (s.port n)) s := by
  simp only [restartTimer, restartedPort, timerFor]
  split
  · rfl
  · exact (State.setPort_self n s).symm

/-- A command put into PENDING changes its own port controller alone (R153). -/
theorem openCommand_eq (n : Port) (tag : Byte) (c : Option Instr) (s : State) :
    openCommand n tag c s = withPort n { s.port n with
      overrun := false, holder := .pending, pendingTag := tag, inExec := c } s := rfl

/-- An answer that becomes READY changes its own port controller alone (R154). -/
theorem respond_eq (n : Port) (tag : Byte) (r : Reply) (s : State) :
    respond n tag r s = withPort n { s.port n with
      holder := .ready ⟨r.status, tag, r.payload⟩, inExec := none } s := rfl

/-- A discarded frame sets the overrun flag and does nothing else (R155). -/
theorem discardFrame_eq (n : Port) (s : State) :
    discardFrame n s = withPort n { s.port n with overrun := true } s := rfl

/-- While a reset lasts a host command does nothing (R170). -/
theorem hostCommand_in_reset {n : Port} {tag : Byte} {c : Instr} {block : State → Reply × State}
    {s : State} (h : s.resetting ≠ none) : hostCommand n tag c block s = .next s := by
  cases hr : s.resetting with
  | none => exact absurd hr h
  | some k => simp [hostCommand, unlessReset, hr]

/-- The state in which a block takes a command: the frame has been taken, when none had put the command into
PENDING before, and the command is in execution. -/
def opened (n : Port) (tag : Byte) (c : Instr) (s : State) : State :=
  if (s.port n).holder = .pending then s else openCommand n tag (some c) (restartTimer n s)

/-- A command that may be taken and that fails a check of R157 is answered with that status, and no block is
told; one that passes is answered with what its block answers. -/
theorem hostCommand_taken {n : Port} {tag : Byte} {c : Instr} {block : State → Reply × State} {s : State}
    (h : Free n c s) :
    hostCommand n tag c block s = .next (match portCheck n c (opened n tag c s) with
      | some st => respond n tag (Reply.refuse st) (opened n tag c s)
      | none =>
        respond n tag (block (opened n tag c s)).1 (block (opened n tag c s)).2) := by
  obtain ⟨hr, hp⟩ := h
  have hnot : ¬ ((s.port n).holder = .pending ∧ (s.port n).inExec ≠ some c) :=
    fun ⟨a, b⟩ => b (hp a)
  have hup : ¬ s.resetting.isSome = true := by rw [hr]; decide
  have ht : takeCommand n tag c block s = _ := if_neg hnot
  exact congrArg Host.Outcome.next ((if_neg hup).trans ht)

theorem withPort_port (n m : Port) (p : PortCtl) (s : State) :
    (withPort n p s).port m = if m = n then p else s.port m := put_getElem _ _ _ _

theorem withPort_withPort (n : Port) (p q : PortCtl) (s : State) :
    withPort n q (withPort n p s) = withPort n q s := by simp [withPort]

/-- The controller of port n once a command has been opened on it (R153, R163). -/
def openedPort (tag : Byte) (c : Instr) (p : PortCtl) : PortCtl :=
  if p.holder = .pending then p
  else { restartedPort p with overrun := false, holder := .pending, pendingTag := tag, inExec := some c }

/-- Opening a command changes its own port controller alone. -/
theorem opened_eq (n : Port) (tag : Byte) (c : Instr) (s : State) :
    opened n tag c s = withPort n (openedPort tag c (s.port n)) s := by
  by_cases h : (s.port n).holder = .pending
  · simp only [opened, openedPort, if_pos h]; exact (State.setPort_self n s).symm
  · simp only [opened, openedPort, if_neg h, openCommand_eq, restartTimer_eq, withPort_withPort,
      withPort_port, if_true]

/-- A port opened and then answered is the port answered. -/
theorem openedPort_answered (tag : Byte) (c : Instr) (st : Status) (l : List Byte) (p : PortCtl) :
    { openedPort tag c p with holder := .ready ⟨st, tag, l⟩, inExec := none } = answeredPort p tag st l := by
  by_cases h : p.holder = .pending
  · simp [openedPort, answeredPort, h]
  · by_cases ha : p.session = .attached <;> simp [openedPort, answeredPort, h, restartedPort, ha, timerFor]

theorem openedPort_session (tag : Byte) (c : Instr) (p : PortCtl) :
    (openedPort tag c p).session = p.session := by
  simp only [openedPort, restartedPort]; split <;> (try split) <;> rfl

theorem openedPort_role (tag : Byte) (c : Instr) (p : PortCtl) :
    (openedPort tag c p).role = p.role := by
  simp only [openedPort, restartedPort]; split <;> (try split) <;> rfl

/-- A block that leaves the port controllers as they stood when it took the command: its state, with port n
answered. -/
theorem respond_of_hpc {n : Port} {tag : Byte} {c : Instr} {s t : State} (r : Reply)
    (h : t.hpc = (opened n tag c s).hpc) :
    respond n tag r t =
      { t with hpc := put s.hpc n (answeredPort (s.port n) tag r.status r.payload) } := by
  rw [respond_eq, opened_eq] at *
  have hp : t.port n = openedPort tag c (s.port n) := by
    simp [State.port, h, withPort]
  rw [withPort, hp, openedPort_answered, h]
  simp [withPort]

/-- A command whose block changes nothing is answered, and nothing else changes. -/
theorem respond_opened (n : Port) (tag : Byte) (c : Instr) (r : Reply) (s : State) :
    respond n tag r (opened n tag c s) = answered n tag r.status r.payload s := by
  rw [respond_of_hpc r rfl, opened_eq]
  rfl

/-- The checks of R157 see the port as it stands before the frame is taken. -/
theorem portCheck_opened (n : Port) (tag : Byte) (c : Instr) (s : State) :
    portCheck n c (opened n tag c s) = portCheck n c s := by
  simp only [portCheck, opened_eq, withPort_port, if_true, openedPort_session, openedPort_role]

/-- A command that fails a check of R157. -/
theorem hostCommand_refused {n : Port} {tag : Byte} {c : Instr} {block : State → Reply × State}
    {s : State} {st : Status} (h : Free n c s) (hc : portCheck n c s = some st) :
    hostCommand n tag c block s = .next (answered n tag st [] s) := by
  rw [hostCommand_taken h, portCheck_opened, hc]
  exact congrArg _ (respond_opened n tag c (Reply.refuse st) s)

/-- A command that passes the checks and whose block changes nothing. -/
theorem hostCommand_kept {n : Port} {tag : Byte} {c : Instr} {block : State → Reply × State}
    {s : State} {r : Reply} (h : Free n c s) (hc : portCheck n c s = none)
    (hb : block (opened n tag c s) = (r, opened n tag c s)) :
    hostCommand n tag c block s = .next (answered n tag r.status r.payload s) := by
  rw [hostCommand_taken h, portCheck_opened, hc, hb]
  exact congrArg _ (respond_opened n tag c r s)

/-- A command that passes the checks and whose block leaves the port controllers alone. -/
theorem hostCommand_ran {n : Port} {tag : Byte} {c : Instr} {block : State → Reply × State}
    {s t : State} {r : Reply} (h : Free n c s) (hc : portCheck n c s = none)
    (hb : block (opened n tag c s) = (r, t)) (ht : t.hpc = (opened n tag c s).hpc) :
    hostCommand n tag c block s =
      .next { t with hpc := put s.hpc n (answeredPort (s.port n) tag r.status r.payload) } := by
  rw [hostCommand_taken h, portCheck_opened, hc, hb]
  exact congrArg _ (respond_of_hpc r ht)

end Sys2Proof.Machine
end

