-- ==== Sys2Proof/Laws/Blocks.lean ====
section
/-! SUPPORT. What the shared operations of the blocks do, said once: trip lines and their pins, watches and
alarm sets, windows, profiles, the converter, copies of records, the queue of spot requests, the timers. -/

namespace Sys2Proof.Machine

open Sys2Proof.Safety

/-! ### Trip lines (R115, R119, R123) -/

/-- Replacing a line's record changes that record and the level of its pin, and nothing else (R115). -/
theorem updateLine_eq (t : LineNo) (x : Line) (s : State) :
    updateLine t x s = (s.setLine t x).setInput (lineInput t) { s.input (lineInput t) with
      drive := driveFor (s.input (lineInput t)).mode (s.input (lineInput t)).polarity
        (x.state == .tripped) } := by
  simp [updateLine, drivePin]

/-- With the pin in TRIP mode, the level is that of R115. -/
theorem updateLine_trip {t : LineNo} {s : State} (x : Line) (h : (s.input (lineInput t)).mode = .trip) :
    updateLine t x s = withLine t x s := by
  have hd : driveFor .trip (s.input (lineInput t)).polarity (x.state == .tripped)
      = tripLevel (s.input (lineInput t)).polarity (decide (x.state = .tripped)) := by
    cases (s.input (lineInput t)).polarity <;> cases x.state <;> rfl
  rw [updateLine_eq, h, hd]
  rfl

/-- A trip: the record, the pin, and TRIP_ASSERTED to all ports (R119). -/
theorem tripLine_eq (t : LineNo) (arming : PortSet) (cause id : Byte) (s : State) :
    tripLine t arming cause id s = afterEvents [⟨everyPort, .tripAsserted, lineByte t, causeDetail cause id⟩]
      (updateLine t { state := .tripped, arming := arming, ack := PortSet.empty,
                      count := saturate Config.tripCountLimit (s.line t).count } s) :=
  raise_eq _ _ _ _ _

/-- A release: the record, the pin, and TRIP_RELEASED to all ports (R123). -/
theorem releaseLine_eq (t : LineNo) (cause low : Byte) (s : State) :
    releaseLine t cause low s = afterEvents [⟨everyPort, .tripReleased, lineByte t, causeDetail cause low⟩]
      (updateLine t { s.line t with state := .armed, ack := PortSet.empty } s) :=
  raise_eq _ _ _ _ _

/-- The release condition of R122. -/
theorem releaseHolds_iff (t : LineNo) (s : State) :
    releaseHolds t s = true ↔ (s.line t).state = .tripped ∧ (s.line t).arming ≠ PortSet.empty ∧
      (s.line t).ack = (s.line t).arming ∧ s.alarms t = [] := by
  simp only [releaseHolds, Bool.and_eq_true, beq_iff_eq, Bool.not_eq_true', List.isEmpty_iff,
    ← Bool.not_eq_true, PortSet.isEmpty_iff, ne_eq, and_assoc]

/-- An EXIT report changes its own line alone, as `lineAfterExits` says (R120). -/
theorem exitReport_line (l j : LineNo) (i : SubId) (s : State) :
    (exitReport l i s).line j =
      if j = l then lineAfterExits [i] (s.alarms l) (s.line l) else s.line j := by
  have h : releaseHolds l s = true ↔ Releasable (s.alarms l) (s.line l) := releaseHolds_iff l s
  by_cases hr : Releasable (s.alarms l) (s.line l)
  · rw [exitReport, judgeRelease, if_pos (h.mpr hr), releaseLine_eq]
    have hl : lineAfterExits [i] (s.alarms l) (s.line l) =
        { s.line l with state := .armed, ack := PortSet.empty } := if_pos ⟨by simp, hr⟩
    rw [hl]
    exact State.setLine_line s l j _
  · rw [exitReport, judgeRelease, if_neg (fun e => hr (h.mp e))]
    by_cases hj : j = l
    · simp [lineAfterExits, hr, hj]
    · simp [hj]

/-! ### Records (R2) -/

/-- The audience of a record's events in the terms of the statements (R2). -/
theorem SubRecord.audience_eq (r : SubRecord) : r.audience = audienceOf r := by
  cases h : r.owner with
  | none => rw [SubRecord.audience, audienceOf, h]; rfl
  | some n =>
    rw [SubRecord.audience, audienceOf, h]
    fin_cases n <;> rfl

/-! ### Watches (R107) -/

/-- Replacing a watch changes that watch and the alarm sets, and nothing else (R107). -/
theorem updateWatch_eq (i : SubId) (w : Option Watch) (s : State) :
    updateWatch i w s = { s with wtu := {
      watches := put s.wtu.watches i w
      alarms := tabulate fun t => alarmAfter i w t (s.alarms t) } } := rfl

theorem updateWatch_watch (i j : SubId) (w : Option Watch) (s : State) :
    (updateWatch i w s).watch j = if j = i then w else s.watch j := put_getElem _ _ _ _

theorem updateWatch_alarms (i : SubId) (w : Option Watch) (t : LineNo) (s : State) :
    (updateWatch i w s).alarms t = alarmAfter i w t (s.alarms t) := tabulate_getElem _ _

/-- Who is in an alarm set after one watch has been replaced. -/
theorem mem_alarmAfter (i j : SubId) (w : Option Watch) (t : LineNo) (l : List SubId) :
    j ∈ alarmAfter i w t l ↔ if j = i then inAlarmSet w t = true else j ∈ l := by
  have ins : ∀ l : List SubId, j ∈ insertId i l ↔ j = i ∨ j ∈ l := by
    intro l
    induction l with
    | nil => simp [insertId]
    | cons x l ih =>
      simp only [insertId]
      split
      · simp
      · split
        · next h => subst h; simp
        · simp only [List.mem_cons, ih]; tauto
  simp only [alarmAfter]
  by_cases h : inAlarmSet w t = true
  · simp only [h, if_true, ins]
    by_cases hj : j = i <;> simp [hj]
  · simp only [h, Bool.false_eq_true, if_false, List.mem_filter, bne_iff_ne]
    by_cases hj : j = i <;> simp [hj]

/-! ### Windows and profiles (R83 to R89, R96, R97) -/

/-- One id of a report: three cases and no other (R83 to R88). -/
theorem reportDue_cases (e : DueEnd) (frame : FrameNo) (d : Due) (s : State) :
    ((s.window d.id).map Window.generation ≠ some d.generation ∧ reportDue e frame d s = s) ∨
    (∃ w, s.window d.id = some w ∧ w.generation = d.generation ∧ w.position + 1 ≠ w.average.count ∧
      reportDue e frame d s =
        s.setWindow d.id (some { w.take e with position := w.position + 1 })) ∨
    ∃ w, s.window d.id = some w ∧ w.generation = d.generation ∧ w.position + 1 = w.average.count ∧
      reportDue e frame d s = closeWindow d.id frame (w.take e) s := by
  cases hw : s.window d.id with
  | none => exact .inl ⟨by simp, by simp [reportDue, hw]⟩
  | some w =>
    by_cases hg : w.generation = d.generation
    · by_cases hc : w.position + 1 = w.average.count
      · exact .inr (.inr ⟨w, rfl, hg, hc, by simp [reportDue, hw, hg, hc]⟩)
      · exact .inr (.inl ⟨w, rfl, hg, hc, by simp [reportDue, hw, hg, hc]⟩)
    · exact .inl ⟨by simpa using hg, by simp [reportDue, hw, hg]⟩

theorem activateProfiles_profile (p : ProfileNo) (s : State) :
    (activateProfiles s).profile p = activated (s.profile p) := tabulate_getElem _ _

theorem profileSessionEnd_profile (n : Port) (p : ProfileNo) (s : State) :
    (profileSessionEnd n s).profile p = (s.profile p).forget n := tabulate_getElem _ _

/-- Staged values becoming active change the profiles alone (R96). -/
theorem activateProfiles_eq (s : State) :
    activateProfiles s =
      { s with asu := { s.asu with profiles := (activateProfiles s).asu.profiles } } := rfl

/-! ### Converter (R58, R60 to R62) -/

theorem refInWindow_iff (r : RefLevel) : refInWindow r = true ↔ 2400000 ≤ r ∧ r ≤ 2600000 := by
  rw [refInWindow, Bool.and_eq_true, decide_eq_true_eq, decide_eq_true_eq]
  exact Iff.rfl

/-- An input number alone in a detail (R58, R69). -/
theorem causeDetail_input (k : InputNo) : causeDetail 0 (byteOf k.val) = BitVec.ofNat 16 k.val := by
  revert k; decide

/-- The reference check sets the flag from REFIN, and announces a change (R58). -/
theorem checkReference_eq (k : InputNo) (s : State) :
    checkReference k s = afterEvents (referenceEvents s.isel.refOk (refInWindow s.isel.refin) k)
      (s.withIsel { s.isel with refOk := if refInWindow s.isel.refin then .ok else .fault }) := by
  have hs : ∀ f : RefFlag, s.isel.refOk = f → s.withIsel { s.isel with refOk := f } = s := by
    intro f hf; subst hf; rfl
  cases hf : s.isel.refOk <;> cases hg : refInWindow s.isel.refin <;>
    simp [checkReference, hf, hg, referenceEvents, raise_eq, hs _ hf, ← causeDetail_input] <;> rfl

/-- A conversion begins: the input is routed, the reference checked, and CONV is BUSY with what R62 records;
nothing else changes. -/
theorem beginConversion_eq (k : InputNo) (frame : Option FrameNo) (due : List Due) (s : State) :
    beginConversion k frame due s = afterEvents
      (referenceEvents s.isel.refOk (refInWindow s.isel.refin) k)
      { s with
        isel := { s.isel with
          routed := some k, refOk := if refInWindow s.isel.refin then .ok else .fault },
        conv := { s.conv with
          power := .busy,
          conversion := some {
            input := k, refFault := !refInWindow s.isel.refin, slotTime := s.seq.divider.value,
            frame := frame, due := due } } } := by
  simp only [beginConversion, checkReference_eq]
  rfl

/-- The beginning of a conversion in the terms of the statements. -/
theorem beginConversion_begun (k : InputNo) (frame : Option FrameNo) (due : List Due) (s : State) :
    beginConversion k frame due s = conversionBegun k frame due s := by
  have h : refInWindow s.isel.refin = decide (2400000 ≤ s.isel.refin ∧ s.isel.refin ≤ 2600000) :=
    Bool.eq_iff_iff.mpr ((refInWindow_iff _).trans (decide_eq_true_iff).symm)
  rw [beginConversion_eq, h]
  rfl

/-- A power-up request acts on an OFF converter alone (R60). -/
theorem powerUp_eq (s : State) :
    powerUp s = { s with conv :=
      if s.conv.power = .off then { s.conv with power := .warming, warmUp := some Config.warmUpTime }
      else s.conv } := by
  simp only [powerUp]; split <;> rfl

/-- The power-down condition acts on the converter alone (R61). -/
theorem judgePower_eq (s : State) :
    judgePower s = { s with conv :=
      if s.conv.power = .ready ∧ s.seq.state = .stopped ∧ s.seq.spots = [] ∧ s.conv.conversion = none then
        { s.conv with power := .off }
      else s.conv } := by
  simp only [judgePower]; split <;> rfl

/-- Standalone service begins only while the sequencer is STOPPED with a READY, idle converter and a waiting
entry, and then for the head entry (R73, R74). -/
theorem startStandalone_cases (s : State) :
    startStandalone s = s ∨
    ∃ e rest, s.seq.spots = e :: rest ∧ s.seq.state = .stopped ∧ s.conv.power = .ready ∧
      s.conv.conversion = none ∧
      startStandalone s =
        beginConversion e.input none [] (setSpots (assignStandalone e.input s.seq.spots) s) := by
  by_cases h : s.seq.state = .stopped ∧ s.conv.power = .ready ∧ s.conv.conversion = none ∧
      s.seq.spots.any SpotEntry.waiting = true
  · cases hs : s.seq.spots with
    | nil => exact .inl (by simp [startStandalone, hs])
    | cons e rest =>
      refine .inr ⟨e, rest, rfl, h.1, h.2.1, h.2.2.1, ?_⟩
      rw [startStandalone, if_pos h]
      simp only [hs]
  · exact .inl (by rw [startStandalone, if_neg h])

/-- Standalone service in the terms of the statements (R73, R74). -/
theorem startStandalone_begun {e : SpotEntry} {rest : List SpotEntry} {s : State}
    (hs : s.seq.spots = e :: rest) (hp : e.place = .waiting) (h : s.seq.state = .stopped)
    (hr : s.conv.power = .ready) (hc : s.conv.conversion = none) :
    startStandalone s = standaloneBegun e.input s := by
  have ha (l : List SpotEntry) : assignStandalone e.input l =
      (l.takeWhile fun x => decide (x.input = e.input)).map (fun x => { x with place := .inFlight })
        ++ l.dropWhile fun x => decide (x.input = e.input) := by
    induction l with
    | nil => rfl
    | cons x l ih => by_cases hx : x.input = e.input <;> simp [assignStandalone, hx, ih]
  have hw : s.seq.spots.any SpotEntry.waiting = true := by simp [hs, SpotEntry.waiting, hp]
  rw [startStandalone, if_pos ⟨h, hr, hc, hw⟩]
  simp only [hs]
  rw [beginConversion_begun, ha, standaloneBegun, hs]
  rfl

/-! ### Copies of records (R132 to R135, R138) -/

/-- Placing copies neither reads nor writes ATTNn. -/
theorem placeCopies_attn (pol : Policy) (l : List SampleRecord) (b : Bool) (q : PortQueues) :
    l.foldl (fun q r => placeCopy pol r q) { q with attn := b } =
      { l.foldl (fun q r => placeCopy pol r q) q with attn := b } := by
  induction l generalizing q with
  | nil => rfl
  | cons r l ih =>
    have h : placeCopy pol r { q with attn := b } = { placeCopy pol r q with attn := b } := by
      simp only [placeCopy]
      split
      · rfl
      · cases pol <;> rfl
    rw [List.foldl_cons, h, ih, List.foldl_cons]

/-- One copy, in the terms of the statements (R132, R133, R144). -/
theorem placeSample_copy (r : SampleRecord) (n : Port) (s : State) :
    placeSample r n s = afterCopies [(n, r)] s := by
  have h (m : Port) : queuesAfterCopies [(n, r)] s m =
      if m = n ∧ attached s n = true then
        { placeCopy (s.port n).policy r (s.queues n) with
          attn := attnCondition (s.port n) (placeCopy (s.port n).policy r (s.queues n)) }
      else s.queues m := by
    by_cases hm : m = n
    · subst hm; simp [queuesAfterCopies]
    · have : ¬ n = m := fun e => hm e.symm
      simp [queuesAfterCopies, hm, this]
  have ht (q : PortQueues) : tabulate (queuesAfterCopies [(n, r)] s) =
      if attached s n = true then put s.dlv.queues n
        { placeCopy (s.port n).policy r (s.queues n) with
          attn := attnCondition (s.port n) (placeCopy (s.port n).policy r (s.queues n)) }
      else s.dlv.queues := by
    refine table_ext fun m => ?_
    rw [tabulate_getElem, h]
    by_cases ha : attached s n = true
    · simp only [ha, and_true, if_true, put_getElem]; rfl
    · simp [ha, State.queues]
  rw [placeSample_eq, afterCopies, ht {}]
  split <;> rfl

@[simp] theorem afterCopies_nil (s : State) : afterCopies [] s = s := by
  have h : tabulate (queuesAfterCopies [] s) = s.dlv.queues :=
    table_ext fun m => by rw [tabulate_getElem]; simp [queuesAfterCopies, State.queues]
  simp [afterCopies, h]

/-- Copies in two groups, one after the other, are the copies of both. -/
theorem afterCopies_append (l k : List (Port × SampleRecord)) (s : State) :
    afterCopies k (afterCopies l s) = afterCopies (l ++ k) s := by
  have h (m : Port) : queuesAfterCopies k (afterCopies l s) m = queuesAfterCopies (l ++ k) s m := by
    have hq : (afterCopies l s).queues m = queuesAfterCopies l s m := tabulate_getElem _ _
    have hp : (afterCopies l s).port m = s.port m := rfl
    have ha : attached (afterCopies l s) m = attached s m := rfl
    rw [queuesAfterCopies, hq, hp, ha]
    simp only [queuesAfterCopies, List.filter_append, List.map_append]
    generalize (l.filter fun x => decide (x.1 = m)).map Prod.snd = a
    generalize (k.filter fun x => decide (x.1 = m)).map Prod.snd = b
    by_cases hat : attached s m = true
    · by_cases hA : a = []
      · simp [hat, hA]
      · by_cases hB : b = []
        · simp [hat, hA, hB]
        · simp only [hat, hA, hB, placeCopies_attn, List.foldl_append, List.append_eq_nil_iff, ne_eq,
            not_false_eq_true, and_self, if_true]
          rfl
    · simp [hat]
  have ht : tabulate (queuesAfterCopies k (afterCopies l s)) = tabulate (queuesAfterCopies (l ++ k) s) := by
    rw [funext h]
  simp only [afterCopies] at ht ⊢
  rw [ht]

/-- DLV takes a SUB record in the terms of the statements (R132, R138). -/
theorem deliverSub_eq (i : SubId) (r : SampleRecord) (s : State) : deliverSub i r s = delivered i r s := by
  have h (x : PortSet) (t : State) : placeSamples x r t =
      afterCopies (((List.finRange 3).filter fun n => x.has n).map fun n => (n, r)) t := by
    obtain ⟨a, b, c⟩ := x
    cases a <;> cases b <;> cases c <;>
      simp [placeSamples, placeSample_copy, afterCopies_append, PortSet.has, List.finRange_succ]
  rw [deliverSub, h]
  rfl

/-! ### Spot queue (R69 to R71) -/

/-- Returning entries changes no entry but its place, and the queue keeps its order (R71). -/
theorem returnSpots_eq (s : State) :
    returnSpots s = setSpots (s.seq.spots.map fun e => { e with
      place := if e.place = .inFlight then .inFlight else .waiting }) s := by
  have h : s.seq.spots.map returnEntry = s.seq.spots.map fun e => { e with
      place := if e.place = .inFlight then .inFlight else .waiting } := by
    refine List.map_congr_left fun e _ => ?_
    cases hp : e.place <;> simp [returnEntry, hp] <;> rw [← hp]
  rw [returnSpots, h]

/-! ### Timers (R38, R39) -/

/-- The timers at a boundary: exactly one of the two runs. -/
theorem startFrameTimers_eq (q : Seq) :
    startFrameTimers q = { q with
      frameTimer := if q.sync = .locked then none else some (q.slots + 1),
      syncTimer := if q.sync = .locked then some (64 * q.syncTimeout) else none } := by
  simp only [startFrameTimers]
  split <;> rfl

/-! ### Reset (R170) -/

theorem finishReset_port (b0 b1 b2 : Bool) {s : State} {kind : ResetKind} (n : Port)
    (h : s.resetting = some kind) :
    (finishReset b0 b1 b2 s).port n = endResetPort (strapOf b0 b1 b2 n) kind (s.port n) := by
  simp only [finishReset, h]
  exact tabulate_getElem _ _

theorem beginReset_port (kind : ResetKind) (n : Port) (s : State) :
    (beginReset kind s).port n = resetPort (s.port n) := tabulate_getElem _ _

end Sys2Proof.Machine
end

