-- ==== Sys2Proof/Laws/Formats.lean ====
section
/-! SUPPORT. The bytes of fields, records and statuses that the machine writes are those of the tables of
chapter 10, and what MISOn shows first is the first bit of the copy. -/

namespace Sys2Proof.Machine

open Sys2Proof.Safety

/-- A byte cut out of a field. -/
theorem byte_of_field {w : Nat} (v : BitVec w) (k : Nat) :
    BitVec.ofNat 8 (v.toNat >>> k) = v.extractLsb' k 8 := by
  apply BitVec.eq_of_toNat_eq
  simp [BitVec.extractLsb'_toNat]

theorem bytesOf_two (v : BitVec 16) : bytesOf 2 v.toNat = twoBytes v := by
  simp only [bytesOf, twoBytes, byte_of_field, Nat.mul_one, Nat.mul_zero]

theorem bytesOf_three (v : BitVec 24) : bytesOf 3 v.toNat = threeBytes v := by
  simp only [bytesOf, threeBytes, byte_of_field, Nat.mul_one, Nat.mul_zero, Nat.reduceMul]

theorem bytesOf_four (v : BitVec 32) : bytesOf 4 v.toNat = fourBytes v := by
  simp only [bytesOf, fourBytes, byte_of_field, Nat.mul_one, Nat.mul_zero, Nat.reduceMul]

theorem Status.value_table (st : Status) : st.value = statusByte st := by cases st <;> rfl

theorem EventCode.value_table (c : EventCode) : c.value = eventByte c := by cases c <;> rfl

theorem eventBytes_row (e : EventEntry) : eventBytes e = eventRow e := by
  simp only [eventBytes, eventRow, countByte, bytesOf_two, bytesOf_three, EventCode.value_table, byteOf]

theorem paramSetBytes_row (p : Option Params) : paramSetBytes p = paramRow p := by
  match p with
  | none => rfl
  | some ⟨_, _, _, _, _, none⟩ => rfl
  | some ⟨_, _, _, _, _, some w⟩ =>
    cases h : w.trip <;>
      simp [paramSetBytes, paramRow, watchBytes, bytesOf_two, bytesOf_three, byteOf, h]

/-- A present field's number is that of the field, and 0 for an absent one. -/
theorem present_getD {w : Nat} (v : Option (BitVec w)) : present v = (v.getD 0).toNat := by
  cases v <;> simp [present]

theorem RecordFlags.value_bits (f : RecordFlags) :
    f.value = 0#2 ++ BitVec.ofBool f.refFault ++ BitVec.ofBool f.noData ++ BitVec.ofBool f.missed ++
      BitVec.ofBool f.railHigh ++ BitVec.ofBool f.railLow ++ BitVec.ofBool f.clipped := by
  rcases f with ⟨_ | _, _ | _, _ | _, _ | _, _ | _, _ | _⟩ <;> rfl

theorem presenceByte_bits (r : SampleRecord) :
    presenceByte r = r.kind.value.extractLsb' 0 2 ++ BitVec.ofBool r.frame.isSome ++
      BitVec.ofBool r.value.isSome ++ BitVec.ofBool r.raw.isSome ++ BitVec.ofBool r.watch.isSome ++ 0#2 := by
  cases hk : r.kind <;> cases hf : r.frame.isSome <;> cases hv : r.value.isSome <;> cases hr : r.raw.isSome <;>
    cases hw : r.watch.isSome <;> simp only [presenceByte, hk, hf, hv, hr, hw] <;> rfl

/-- Bytes 10 and 11 of a sample record: a watch state in bits 14 to 12 and a code in bits 11 to 0. -/
theorem bytesOf_watch_raw (w : BitVec 3) (v : BitVec 12) :
    bytesOf 2 (4096 * w.toNat + v.toNat) = [0#1 ++ w ++ v.extractLsb' 8 4, v.extractLsb' 0 8] := by
  have hw := w.isLt
  have hv := v.isLt
  have hd : BitVec.ofNat 8 ((4096 * w.toNat + v.toNat) >>> 8) = 0#1 ++ w ++ v.extractLsb' 8 4 := by
    apply BitVec.eq_of_toNat_eq
    have h0 : v.toNat / 256 % 16 < 2 ^ 4 := by omega
    have h1 := Nat.shiftLeft_add_eq_or_of_lt h0 w.toNat
    simp only [Nat.shiftLeft_eq, Nat.reducePow] at h1
    simp only [BitVec.toNat_append, BitVec.extractLsb'_toNat, BitVec.toNat_ofNat, Nat.reducePow,
      Nat.shiftRight_eq_div_pow, Nat.shiftLeft_eq, Nat.zero_mod, Nat.zero_mul, Nat.zero_or, ← h1]
    omega
  have hr : BitVec.ofNat 8 ((4096 * w.toNat + v.toNat) >>> 0) = v.extractLsb' 0 8 := by
    apply BitVec.eq_of_toNat_eq
    simp only [BitVec.extractLsb'_toNat, BitVec.toNat_ofNat, Nat.reducePow, Nat.shiftRight_zero]
    omega
  simp only [bytesOf, Nat.mul_one, Nat.mul_zero, hd, hr]

/-- The bytes of a sample record whose watch field holds w. -/
theorem sampleBytes_bits (r : SampleRecord) (w : BitVec 3) (h : watchValue r.watch = w.toNat) :
    sampleBytes r =
      [r.kind.value.extractLsb' 0 2 ++ BitVec.ofBool r.frame.isSome ++ BitVec.ofBool r.value.isSome ++
          BitVec.ofBool r.raw.isSome ++ BitVec.ofBool r.watch.isSome ++ 0#2, r.ident]
        ++ twoBytes r.sequence ++ threeBytes (r.frame.getD 0) ++ threeBytes (r.value.getD 0)
        ++ [0#1 ++ w ++ (r.raw.getD 0).extractLsb' 8 4, (r.raw.getD 0).extractLsb' 0 8,
          BitVec.ofNat 8 r.folded, r.generation, BitVec.ofNat 8 r.lost, r.flags.value] := by
  simp only [sampleBytes, h, presenceByte_bits, present_getD, bytesOf_two, bytesOf_three, bytesOf_watch_raw,
    byteOf, List.append_assoc, List.cons_append, List.nil_append]

theorem sampleBytes_row (r : SampleRecord) : sampleBytes r = sampleRow r := by
  rw [sampleBytes_bits r (match r.watch with
    | none => 0
    | some x => x.value.setWidth 3) (by rcases r.watch with _ | _ | _ | _ | _ | _ <;> rfl),
    RecordFlags.value_bits]
  unfold sampleRow
  rcases r.watch with _ | _ | _ | _ | _ | _ <;> cases r.kind <;> rfl

/-- What MISOn shows at the fall of SSn. -/
theorem presented_firstBit (copy : List Byte) : presented copy = .driven (firstBit copy) := by
  cases copy <;> rfl

end Sys2Proof.Machine
end

