-- ==== Sys2Proof/Tests/Slice0.lean ====
section
/-! SUPPORT. The author's own tests: the smoke test of WellFormed, formats against the examples of
section 10.7, one step of every row against the rules or the examples of the manual, and for every statement
with hypotheses a witness that meets them. -/

namespace Sys2Proof.Tests

open Sys2Proof Sys2Proof.Machine Sys2Proof.Safety

-- One test at a time: each kernel evaluation that waits for an earlier one holds a thread with its stack.
set_option Elab.async false

/-! ### Small states -/

/-- The state after a command that answers one. -/
def then' (s : State) (c : Instr) : State :=
  match exec c s with
  | .next t => t
  | .fault _ => s
  | .refused _ => s

/-- What the holder of a port answers: the status and the payload. -/
def answer (s : State) (n : Port) : Option (Status × List Byte) :=
  match (s.port n).holder with
  | .ready r => some (r.status, r.payload)
  | .pending => none
  | .empty => none

/-- Codes, subjects and details of the events that wait for a port. -/
def eventsOf (s : State) (n : Port) : List (EventCode × Byte × BitVec 16) :=
  (s.queues n).events.map fun e => (e.code, e.subject, e.detail)

/-- A port in a session with a timeout of 50 ms. -/
def openPort (role : Role) : PortCtl :=
  { role := role, session := .attached, timeout := 5, timer := some 5, cause := .none }

/-- Three ATTACHED ports: 0 and 1 CONTROL, 2 MONITOR. -/
def att : State := { State.reset with hpc := #v[openPort .control, openPort .control, openPort .monitor] }

/-- Input AIN3 or another in every frame, average 1. -/
def every (k : InputNo) : Params :=
  { input := k, period := 0, phase := 0, average := .a1, profile := 0, watch := none }

/-- A record of port 0 in a state. -/
def owned (st : SubState) (p : Params) : SubRecord :=
  { state := st, owner := some 0, readers := ⟨true, false, false⟩,
    current := if st = .staged then none else some p, staged := if st = .staged then some p else none }

/-- The state with the sequencer in a state, with a vote of port 0, its converter READY. -/
def seqIn (st : SeqState) (s : State) : State :=
  { s with
    seq := { s.seq with
      state := st, votes := ⟨true, false, false⟩, starter := some 0, frameTimer := some 9,
      syncTimer := some 1024, haltCause := some ⟨0, .stop⟩ },
    conv := { s.conv with power := .ready } }

/-- The state with an EXTERNAL source and a sync state. -/
def external (y : SyncState) (s : State) : State :=
  { s with seq := { s.seq with source := .external, sync := y } }

/-- The plan table that the records of a state reserve (R5). -/
def planOf (s : State) : PlanTable :=
  tabulate fun r => tabulate fun k => countIds fun i => decide (claimAt (s.record i).reserved r k = 1)

/-- The state with that plan table. -/
def planned (s : State) : State := { s with subt := { s.subt with plan := planOf s } }

theorem planned_planLaw (s : State) : PlanLaw (planned s) := by
  intro r k
  simp [planned, planOf, State.record]
  rfl

/-- The state with trip line 0 in a state, armed by port 0, its pin AIN12 in TRIP mode. -/
def lineIn (st : LineState) (s : State) : State :=
  (s.setInput 12 {
    mode := .trip, useCount := 0, polarity := .activeHigh,
    drive := if st = .tripped then .drivenHigh else .drivenLow }).setLine 0 {
    state := st, arming := if st = .disarmed then ⟨false, false, false⟩ else ⟨true, false, false⟩,
    ack := ⟨false, false, false⟩, count := 0 }

/-- A spot entry of port 0. -/
def entry (tag : Byte) (place : SpotPlace) : SpotEntry :=
  { port := 0, tag := tag, input := 3, profile := none, remaining := 2, considered := false, place := place }

/-- The state with these spot entries. -/
def withSpots (l : List SpotEntry) (s : State) : State := { s with seq := { s.seq with spots := l } }

/-- A conversion of AIN3 for the due member 0, in frame 7. -/
def conversion : Conversion :=
  { input := 3, refFault := false, slotTime := 4, frame := some 7, due := [⟨0, 0⟩] }

/-- The state with that conversion in progress. -/
def busy (s : State) : State := { s with conv := { s.conv with power := .busy, conversion := some conversion } }

/-- The bytes of a parameter set for AIN3, p 0, A 1, P0, with a watch bound to line 0 or without one. -/
def bytesFor (watch : Byte) : ParamBytes :=
  { input := 3, period := 0, phase := 0, average := 1, profile := 0, watchFlags := watch, low := 1000,
    high := 2000, hysteresis := 50, debounce := 8, line := 3 }

/-- A watch with limits 1000 and 2000, hysteresis 50 and a debounce. -/
def watchIn (st : WatchState) (d count : Nat) : Watch :=
  { part := { low := 1000, high := 2000, hysteresis := 50, debounce := d, trip := some 0 },
    generation := 0, state := st, count := count, frozen := false }

/-! ### WellFormed (R173): the smoke test -/

theorem test_wellFormed_refuses_no_id : (Instr.readLatest 0 1 []).wellFormed = false := by decide

theorem test_wellFormed_refuses_eight_ids :
    (Instr.readLatest 0 1 [0, 1, 2, 3, 4, 5, 6, 7]).wellFormed = false := by decide

theorem test_wellFormed_takes_seven_ids :
    (Instr.readLatest 0 1 [0, 1, 2, 3, 4, 5, 6]).wellFormed = true := by decide

/-! ### Formats (chapter 10) -/

/-- Section 10.7: the payload of the CREATE for AIN7, written out byte by byte. -/
theorem test_decode_create :
    decodeCommand 0 5 0x10 [0x07, 0x02, 0x02, 0x01, 0x00, 0x00, 0, 0, 0, 0, 0, 0, 0, 0, 0, 0, 0x02] =
      .command (.create 0 5
        { input := 7, period := 2, phase := 2, average := 1, profile := 0, watchFlags := 0, low := 0,
          high := 0, hysteresis := 0, debounce := 0, line := 0 } 2) := by decide

/-- Section 10.7: the same CREATE with L 16 is BAD_LENGTH. -/
theorem test_decode_short_create :
    decodeCommand 0 5 0x10 [0x07, 0x02, 0x02, 0x01, 0x00, 0x00, 0, 0, 0, 0, 0, 0, 0, 0, 0, 0] = .badLength := by
  decide

/-- Table 10-4: ATTACH with a four-byte label, most significant byte first (R174). -/
theorem test_decode_attach :
    decodeCommand 2 9 0x01 [0x12, 0x34, 0x56, 0x78, 0x0A, 0x01] =
      .command (.attach 2 9 0x12345678 0x0A 0x01) := by decide

/-- Table 10-4: SPOT and SET_PROFILE. -/
theorem test_decode_spot :
    decodeCommand 1 9 0x28 [3, 7, 0xFF, 2] = .command (.spot 1 9 3 7 0xFF 2) := by decide

theorem test_decode_setProfile :
    decodeCommand 0 9 0x38 [1, 0x13, 0x88, 0xFF, 0xFF, 0x38] =
      .command (.setProfile 0 9 1 5000 0xFFFF38) := by decide

/-- R173: a code that Table 10-4 does not list. -/
theorem test_decode_unknown : decodeCommand 0 9 0x05 [] = .unknown := by decide

/-- R152: the check value. -/
theorem test_crc_check_value :
    crc [0x31, 0x32, 0x33, 0x34, 0x35, 0x36, 0x37, 0x38, 0x39] = 0x29B1 := by decide +kernel

/-- Section 10.7: the record emitted at the cut in section 5.8. -/
theorem test_sample_bytes :
    sampleBytes {
      kind := .sub, ident := 4, sequence := 57, frame := some 107, value := some 1910, raw := some 1005,
      folded := 2, generation := 3, flags := { missed := true, refFault := true } } =
    [0x38, 0x04, 0x00, 0x39, 0x00, 0x00, 0x6B, 0x00, 0x07, 0x76, 0x03, 0xED, 0x02, 0x03, 0x00, 0x28] := by
  decide

/-- Section 10.7: the SYNC_EARLY of section 2.6.1. -/
theorem test_event_bytes :
    eventBytes { code := .syncEarly, subject := 0, frame := 200, detail := 1 } =
      [0x38, 0x00, 0x00, 0x00, 0xC8, 0x00, 0x01, 0x00] := by decide

/-! ### One step of each row -/

/-- R161: the ATTACH answer after a power-on reset. -/
theorem test_attach :
    answer (then' State.reset (.attach 0 1 7 0 0)) 0 =
      some (.ok, [0x16, 0x40, 0x01, 0, 1, 1, 16, 32, 4, 8, 64, 16, 8, 4, 124]) := by decide

/-- R162: DETACH leaves the port DETACHED with an OK answer. -/
theorem test_detach :
    answer (then' att (.detach 1 1)) 1 = some (.ok, []) ∧
      ((then' att (.detach 1 1)).port 1).session = .detached := by decide +kernel

/-- R156: FETCH keeps the holder. -/
theorem test_fetch : (then' att (.fetch 0 1)).port 0 = att.port 0 := by decide

/-- R168: a watermark of 65 is refused. -/
theorem test_setPort_refused :
    answer (then' att (.setPort 0 1 0 65 63 0)) 0 = some (.badArgument, []) := by decide

/-- R168: a timeout of 0 stops the session timer. -/
theorem test_setPort_stops_timer : ((then' att (.setPort 0 1 1 64 63 0)).port 0).timer = none := by decide

/-- Table 10-5: READ_STATUS has 35 bytes. -/
theorem test_readStatus :
    (answer (then' att (.readStatus 0 1)) 0).map (fun a => a.2.length) = some 35 := by decide +kernel

/-- R9: the lowest FREE id. -/
theorem test_create : answer (then' att (.create 1 1 (bytesFor 3) 2)) 1 = some (.ok, [0]) := by decide +kernel

/-- R53, R9: the input of a created record is in use. -/
theorem test_create_uses_input :
    ((then' att (.create 1 1 (bytesFor 0) 2)).input 3).useCount = 1 := by decide +kernel

/-- R10: MODIFY of a FREE record. -/
theorem test_modify_not_found : answer (then' att (.modify 0 1 31 (bytesFor 0))) 0 = some (.notFound, []) := by
  decide

/-- R12: RELEASE of a STAGED record answers FREE, and SUB_ENDED reaches the owner. -/
theorem test_release :
    answer (then' (withRecord 4 (owned .staged (every 3)) att) (.release 0 1 4)) 0 = some (.ok, [0]) ∧
    eventsOf (then' (withRecord 4 (owned .staged (every 3)) att) (.release 0 1 4)) 0 =
      [(.subEnded, 4, 0)] := by decide +kernel

/-- R15: a MONITOR port joins. -/
theorem test_join :
    ((then' (withRecord 4 (owned .active (every 3)) att) (.join 2 1 4)).record 4).readers =
      ⟨true, false, true⟩ := by decide

/-- R16: LEAVE by a port that is no member. -/
theorem test_leave_not_member :
    answer (then' (withRecord 4 (owned .active (every 3)) att) (.leave 2 1 4)) 2 = some (.notMember, []) := by
  decide

/-- R17: ADOPT of a record with an owner. -/
theorem test_adopt_not_orphan :
    answer (then' (withRecord 4 (owned .active (every 3)) att) (.adopt 1 1 4)) 1 = some (.notOrphan, []) := by
  decide

/-- Table 10-5: READ_SUB of a FREE record. -/
theorem test_readSub :
    (answer (then' att (.readSub 2 1 0)) 2).map (fun a => a.2.take 4) = some [0, 0xFF, 0, 0] := by decide

/-- R19: READ_PLAN of an empty row. -/
theorem test_readPlan : answer (then' att (.readPlan 2 1 63)) 2 = some (.ok, [8, 0]) := by decide

/-- R29: RUN enters STARTING and powers the converter up. -/
theorem test_run :
    answer (then' att (.run 0 1)) 0 = some (.ok, [1]) ∧ (then' att (.run 0 1)).conv.power = .warming := by
  decide

/-- R30: STOP without a vote. -/
theorem test_stop_not_voter : answer (then' att (.stop 1 1)) 1 = some (.notVoter, []) := by decide

/-- R48: S 17 is refused, and so is any CONFIG_TIMING while frames run. -/
theorem test_configTiming_refused :
    answer (then' att (.configTiming 0 1 17 4 0 16)) 0 = some (.badArgument, []) ∧
    answer (then' (seqIn .running att) (.configTiming 0 1 4 4 0 16)) 0 = some (.busyState, []) := by decide

/-- R68: SPOT while STOPPED powers the converter up. -/
theorem test_spot :
    answer (then' att (.spot 2 1 3 9 0xFF 1)) 2 = some (.ok, [9, 1]) ∧
    (then' att (.spot 2 1 3 9 0xFF 1)).conv.power = .warming := by decide

/-- R76: CANCEL_SPOT of an entry in flight. -/
theorem test_cancelSpot_in_flight :
    answer (then' (withSpots [entry 9 .inFlight] att) (.cancelSpot 0 1 9)) 0 = some (.inFlight, []) := by decide

/-- Section 11.1.2: AIN12 to TRIP with ACTIVE_LOW is driven high. -/
theorem test_configInput :
    ((then' att (.configInput 1 1 12 2 1)).input 12).drive = .drivenHigh := by decide

/-- R57: 50 bytes. -/
theorem test_readInputs :
    (answer (then' att (.readInputs 2 1)) 2).map (fun a => a.2.length) = some 50 := by decide +kernel

/-- R93: P0 is never written. -/
theorem test_setProfile_p0 : answer (then' att (.setProfile 0 1 0 1 0)) 0 = some (.badArgument, []) := by decide

/-- R98: P0 has gain 4096 and offset 0. -/
theorem test_readProfile :
    answer (then' att (.readProfile 2 1 0)) 2 =
      some (.ok, [0x10, 0x00, 0, 0, 0, 0, 0, 0, 0, 0, 0, 0xFF]) := by decide

/-- R116: a pin that is not in TRIP mode. -/
theorem test_armTrip_pin_mode : answer (then' att (.armTrip 0 1 0)) 0 = some (.pinMode, []) := by decide

/-- R123: the last acknowledgement releases the line. -/
theorem test_ackTrip :
    answer (then' (lineIn .tripped att) (.ackTrip 0 1 0)) 0 = some (.ok, [0, 1]) ∧
    ((then' (lineIn .tripped att) (.ackTrip 0 1 0)).input 12).drive = .drivenLow := by decide

/-- R124: a TRIPPED line is not disarmed. -/
theorem test_disarmTrip_tripped :
    answer (then' (lineIn .tripped att) (.disarmTrip 0 1 0)) 0 = some (.tripState, []) := by decide

/-- R127: READ_TRIP. -/
theorem test_readTrip :
    answer (then' (lineIn .armed att) (.readTrip 2 1 0)) 2 = some (.ok, [1, 1, 0, 0, 0, 2, 0]) := by decide

/-- R136, R180: an acknowledgement above the unacked count. -/
theorem test_readSamples_bad_ack : answer (then' att (.readSamples 0 1 1 7)) 0 = some (.badAck, [0, 0]) := by
  decide

/-- R143, R180: an acknowledgement above the unacked count. -/
theorem test_readEvents_bad_ack : answer (then' att (.readEvents 0 1 1 15)) 0 = some (.badAck, [0, 0]) := by
  decide

/-- R139: an id above 31. -/
theorem test_readLatest_refused : answer (then' att (.readLatest 0 1 [31, 32])) 0 = some (.badArgument, []) := by
  decide

/-- R155: the PENDING frame is shifted out with the pending tag and the OVERRUN flag. -/
theorem test_transactionStart :
    ((then' (att.setPort 0 { att.port 0 with holder := .pending, pendingTag := 0x15, overrun := true })
      (.transactionStart 0)).port 0).transaction =
        .active (withCrc [0x9A, 0x15, 0]) true := by decide +kernel

/-- R150: MISOn is high-impedance before and after a transaction; at the fall it shows the first bit, 0 of the
status OK or 1 of FFH, and eight clocks carry the byte. -/
theorem test_miso_transaction :
    (att.port 0).miso = .highImpedance ∧
    ((then' (att.setPort 0 { att.port 0 with holder := .ready ⟨.ok, 7, []⟩ }) (.transactionStart 0)).port 0).miso =
      .driven false ∧
    (let t := then' att (.transactionStart 0)
     (t.port 0).miso = .driven true ∧
      ((then' t (.commandFrame 0 (List.replicate 8 true))).port 0).miso = .highImpedance ∧
      ((then' t (.commandFrame 0 (List.replicate 8 true))).port 0).misoCarried =
        List.replicate 8 (.driven true)) := by decide +kernel

/-- R170, R171: a reset makes MISOn high-impedance, and it stays so throughout the transaction that is ignored. -/
theorem test_miso_reset :
    let s := then' (then' att (.transactionStart 0)) (.reset .resetPin)
    (s.port 0).miso = .highImpedance ∧
    ((then' s (.commandFrame 0 [true, false])).port 0).miso = .highImpedance ∧
    ((then' s (.commandFrame 0 [true, false])).port 0).misoCarried = [.highImpedance, .highImpedance] := by
  decide +kernel

/-- R151: a transaction of one byte is malformed. -/
theorem test_commandFrame_malformed :
    answer (then' (then' att (.transactionStart 0)) (.commandFrame 0 (List.replicate 8 true))) 0 =
      some (.badFrame, []) := by decide

/-- R163: the session ends and the other ports are told the cause TIMEOUT. -/
theorem test_sessionTimerExpiry :
    eventsOf (then' att (.sessionTimerExpiry 2)) 0 = [(.portDetached, 2, 1)] := by decide +kernel

/-- R33: the end of the last frame of HALTING, with cause STOP of port 0. -/
theorem test_frameTimerExpiry_halting :
    (then' (seqIn .halting att) .frameTimerExpiry).seq.state = .stopped ∧
    eventsOf (then' (seqIn .halting att) .frameTimerExpiry) 2 = [(.seqStopped, 0, 0)] := by decide +kernel

/-- Section 11.1.2: the first boundary begins frame 0 with SEQ_STARTED, subject 0, detail S. -/
theorem test_warmUpExpiry :
    (then' (then' att (.run 0 1)) (.warmUpExpiry 2500000)).seq.fn = 0 ∧
    eventsOf (then' (then' att (.run 0 1)) (.warmUpExpiry 2500000)) 2 = [(.seqStarted, 0, 8)] := by
  decide +kernel

/-- R46: an edge in FALLBACK regains sync. -/
theorem test_syncEdge_regains :
    (then' (external .fallback (seqIn .running att)) .syncEdge).seq.sync = .locked ∧
    eventsOf (then' (external .fallback (seqIn .running att)) .syncEdge) 1 = [(.syncRegained, 0, 0)] := by
  decide +kernel

/-- R33, R43: an early edge in the last frame of HALTING cuts it, and the sequencer stops. -/
theorem test_syncEdge_halting_early :
    let s : State := { external .locked (seqIn .halting att) with
      seq := { (external .locked (seqIn .halting att)).seq with list := [⟨1, 3, .planned, []⟩] } }
    (then' s .syncEdge).seq.state = .stopped ∧
    eventsOf (then' s .syncEdge) 2 = [(.syncEarly, 0, 1), (.seqStopped, 0, 0)] := by decide +kernel

/-- R45: sync is lost. -/
theorem test_syncTimerExpiry :
    (then' (external .locked (seqIn .running att)) .syncTimerExpiry).seq.sync = .fallback := by decide +kernel

/-- Section 3.5.1: a conversion begun outside the window carries REF_FAULT, and the flag is told once. -/
theorem test_slotStart_fault :
    eventsOf (then' { seqIn .running att with
      seq := { (seqIn .running att).seq with list := [⟨1, 3, .planned, []⟩] } } (.slotStart 2399999)) 2 =
        [(.refFault, 0, 3)] := by decide

/-- R63: 1.25 V against 2.5 V is code 2048, here in a window of average 4. -/
theorem test_conversionComplete :
    ((then' ((busy (seqIn .running att)).setWindow 0 (some
      { generation := 0, average := .a4, profile := 0 })) (.conversionComplete 1250000 2500000)).window 0).map
        Window.sum = some 2048 := by decide +kernel

/-- Table 4-2: the record of a standalone spot reading at 1.25 V without a profile has no frame and no value, and
the converter goes OFF (R61). -/
theorem test_conversionComplete_spot :
    let s : State := withSpots [entry 9 .inFlight] { att with
      conv := { power := .busy, warmUp := none, conversion := some { conversion with frame := none, due := [] } } }
    let t := then' s (.conversionComplete 1250000 2500000)
    (t.queues 0).samples = [{ kind := .spot, ident := 9, raw := some 2048, folded := 1 }] ∧
      (t.queues 1).samples = [] ∧ t.conv.power = .off := by decide +kernel

/-- R170: a reset gives every register its reset value; the roles are sampled at its end. -/
theorem test_reset : (then' (seqIn .running att) (.reset .resetPin)).seq.state = .stopped := by decide

theorem test_resetEnd :
    let t := then' (then' att (.reset .resetPin)) (.resetEnd false true false)
    (t.port 0).role = .monitor ∧ (t.port 1).role = .control ∧ (t.port 1).cause = .resetPin ∧
      t.resetting = none := by decide

/-- Section 6.8: 2010 above the high limit of 2000 with debounce 3 is the first of three. -/
theorem test_watch_pending : (moveWatch (watchIn .normal 3 0) 2010).state = .highPending := by decide

/-- Section 11.1.3: raw average 2049 with gain 5000 and offset -200 is 2301. -/
theorem test_scale : (scale 2049 { gain := 5000, offset := 0xFFFF38 }).value = 2301 := by decide

/-! ### Witnesses: states and operands that meet the hypotheses of each statement, clause by clause -/

theorem witness_StepTakesTheFront : State.reset.pending = [] := by decide

theorem witness_CommandCodecAgrees :
    ((Instr.readLatest 2 7 [31]).isHostCommand = true ∧ (Instr.readLatest 2 7 [31]).wellFormed = true) ∧
    decodeCommand 2 7 0x4A [31] = .command (.readLatest 2 7 [31]) := by decide

/-- One code of each answer, at the least and the greatest length of READ_LATEST. -/
theorem witness_CodeAndLengthChecks :
    tableLength 0x05 = none ∧ tableLength 0x4A = some (1, 7) ∧ (1 ≤ [0].length ∧ [0].length ≤ 7) ∧
    ¬ (1 ≤ ([] : List Byte).length) := by decide

/-- Seven bits behind the last whole byte, and a frame with two FFH bytes behind it. -/
theorem witness_WellFormedFrames :
    (List.replicate 7 true).length < 8 ∧
    parseFrame (frameBytes ⟨0x20, 7, []⟩ ++ [0xFF, 0xFF]) = some ⟨0x20, 7, []⟩ := by decide +kernel

theorem witness_TransactionStartCopies :
    State.reset.resetting = none ∧ (State.reset.port 2).transaction = .idle := by decide

/-- Port n of a state with a transaction in progress. -/
def inTransaction (n : Port) (b : Bool) (s : State) : State :=
  s.setPort n { s.port n with transaction := .active [] b }

/-- A frame of each answer: UNKNOWN_COMMAND, BAD_LENGTH, NOT_ATTACHED, ROLE and taken. -/
theorem witness_CommandFrameDispatch :
    (∀ f ∈ [(⟨0x05, 7, []⟩ : Frame), ⟨0x20, 7, [0]⟩, ⟨0x20, 7, []⟩, ⟨0x04, 7, []⟩],
      parseFrame (gather (bitStream (frameBytes f))) = some f ∧ ¬ (f.code = 0 ∧ f.payload = [])) ∧
    InTransaction 0 [] false (inTransaction 0 false State.reset) ∧
    InTransaction 2 [] false (inTransaction 2 false att) ∧
    ((inTransaction 2 false att).port 2).role = .monitor := by
  unfold InTransaction; decide +kernel

theorem witness_FetchKeepsTheHolder :
    (InTransaction 0 [] true (inTransaction 0 true att) ∧
      parseFrame (gather (bitStream (frameBytes ⟨0, 7, []⟩))) = some ⟨0, 7, []⟩) ∧
    InTransaction 0 [] false (inTransaction 0 false att) ∧ att.resetting = none := by
  unfold InTransaction; decide +kernel

/-- Seven bits; eight bits; a whole frame of a transaction begun while the holder was PENDING. -/
theorem witness_FramesNotExecuted :
    InTransaction 0 [] true (inTransaction 0 true att) ∧ (List.replicate 7 true).length < 8 ∧
    (8 ≤ (List.replicate 8 true).length ∧ parseFrame (gather (List.replicate 8 true)) = none) ∧
    parseFrame (gather (bitStream (frameBytes ⟨0x20, 7, []⟩))) = some ⟨0x20, 7, []⟩ := by
  unfold InTransaction; decide +kernel

theorem witness_PortRefusals :
    (encodeCommand (.readInputs 0 1) = some (0, 1, 0x31, []) ∧ Free 0 (.readInputs 0 1) State.reset ∧
      (State.reset.port 0).session = .detached ∧ isAttach (.readInputs 0 1) = false) ∧
    encodeCommand (.run 2 1) = some (2, 1, 0x20, []) ∧ Free 2 (.run 2 1) att ∧
      (att.port 2).session = .attached ∧ needsControl (.run 2 1) = true ∧
      (att.port 2).role = .monitor := by
  unfold Free; decide

/-- Force 2 and 255, an ATTACHED port with force 0, a DETACHED one with force 0 and 1. -/
theorem witness_AttachOpensASession :
    (Free 0 (.attach 0 1 7 5 2) State.reset ∧ 2 ≤ (2 : Byte).toNat ∧ 2 ≤ (255 : Byte).toNat) ∧
    (Free 0 (.attach 0 1 7 5 0) att ∧ (att.port 0).session = .attached) ∧
    (Free 0 (.attach 0 1 7 5 1) State.reset ∧ (State.reset.port 0).session = .detached ∧
      (1 : Byte).toNat < 2 ∧ State.reset.queues 0 = {}) := by
  unfold Free; decide

theorem att_tripLaw : TripLaw att := by unfold TripLaw Within; decide +kernel

/-- The law of the windows where no record is ACTIVE and none has a watch. -/
theorem windowLaw_of_free {s : State} (h : ∀ i : SubId, (s.record i).state = .free ∧ s.window i = none ∧
    s.watch i = none) : WindowLaw s := by
  intro i
  obtain ⟨h1, h2, h3⟩ := h i
  simp [h1, h2, h3]

theorem att_windowLaw : WindowLaw att := windowLaw_of_free (by decide +kernel)

theorem att_alarmLaw : AlarmLaw att := by unfold AlarmLaw; decide +kernel

theorem witness_SessionEndsWhole :
    TripLaw att ∧ AlarmLaw att ∧ WindowLaw att ∧ Attached 2 att ∧ Free 2 (.detach 2 1) att ∧
    (att.resetting = none ∧ (att.port 2).timer ≠ none) ∧ Free 2 (.attach 2 1 7 5 1) att :=
  ⟨att_tripLaw, att_alarmLaw, att_windowLaw, by unfold Attached; decide, by unfold Free; decide, by decide,
    by unfold Free; decide⟩

/-- Port 0 ends while line 0 is TRIPPED, port 1 has acknowledged and no watch is in alarm: the line is released
(R126); and an EXIT report of its own record, released while STOPPED, releases it before (R120). -/
theorem witness_SessionEnd_releases :
    let x : Line := { state := .tripped, arming := ⟨true, true, false⟩, ack := ⟨false, true, false⟩, count := 1 }
    (lineFound 0 ((lineIn .tripped att).setLine 0 x) att = x ∧ x.arming.has 0 = true ∧
      Releasable [] (withoutPort 0 x)) ∧
    (let s := (updateWatch 5 (some (watchIn .highAlarm 3 3)) (lineIn .tripped att)).setLine 0
        { x with ack := ⟨true, true, false⟩ };
      freedExits 0 s att = [5] ∧ Releasable (att.alarms 0) (s.line 0)) := by
  decide +kernel

/-- The last vote of STARTING goes with the session of port 0 while an entry of port 2 waits: standalone service
resumes with it (R61, R73). -/
theorem witness_SessionEnd_standalone :
    let s := withSpots [{ entry 1 .waiting with port := 2 }] (seqIn .starting att)
    Free 0 (.detach 0 1) s ∧ StandaloneResumes s (then' s (.detach 0 1)) ∧
    s.seq.spots.head? = some { entry 1 .waiting with port := 2 } ∧
    (then' s (.detach 0 1)).isel.routed = some (entry 1 .waiting).input := by
  unfold Free StandaloneResumes; decide +kernel

/-- Both sides of the watermark's range. -/
theorem witness_SetPortReplacesSettings :
    (Free 0 (.setPort 0 1 1 64 63 0) att ∧ Attached 0 att ∧ (64 : Byte).toNat ≤ 64) ∧
    (Free 0 (.setPort 0 1 1 65 63 0) att ∧ ¬ (65 : Byte).toNat ≤ 64) := by
  unfold Free Attached; decide

theorem witness_ReadStatusAnswers : Free 2 (.readStatus 2 1) att ∧ Attached 2 att := by
  unfold Free Attached; decide

/-- Accepted bytes with a bound watch, with an unbound one and without one. -/
theorem witness_ParameterSetCheck :
    (∀ f ∈ [(0 : Byte), 1, 2, 3], (paramsOf (bytesFor f)).isSome = true) ∧
    (bytesFor 3).watchFlags.getLsbD 0 = true ∧ (bytesFor 2).watchFlags.getLsbD 0 = false := by decide

/-- No record FREE. -/
def full : State :=
  { att with subt := { att.subt with records := Vector.replicate 32 (owned .staged (every 3)) } }

/-- AIN5 demanded in every frame, S 1. -/
def oneSlot : State :=
  { att with
    subt := { att.subt with plan := Vector.replicate 64 (put (Vector.replicate 16 0) 5 1) },
    seq := { att.seq with slots := 1 } }

/-- The parameter set of the bytes without a watch. -/
theorem bytes_params : paramsOf (bytesFor 0) = some (every 3) := by decide

theorem witness_CreateAdmitsInOrder :
    (Free 0 (.create 0 1 (bytesFor 0) 4) att ∧ Control 0 att ∧ 4 ≤ (4 : Byte).toNat ∧
      paramsOf { bytesFor 0 with average := 3 } = none) ∧
    (Free 0 (.create 0 1 (bytesFor 0) 3) full ∧ Control 0 full ∧ paramsOf (bytesFor 0) = some (every 3) ∧
      (3 : Byte).toNat < 4 ∧ ∀ i, (full.record i).state ≠ .free) ∧
    ((att.record 0).state = .free ∧ (∀ j : SubId, j < 0 → (att.record j).state ≠ .free)) ∧
    ((lineIn .armed att).input 12).mode ≠ .analog ∧
    ((oneSlot.input 3).mode = .analog ∧ ¬ Admitted oneSlot none (some (every 3))) ∧
    ((oneSlot.input 5).mode = .analog ∧ Admitted oneSlot none (some (every 5))) := by
  unfold Free Control Attached Admitted; decide +kernel

/-- Record 0 of port 0 for AIN3 in every frame, record 1 of port 1 for AIN5, S 1 or 2, AIN12 in TRIP mode. -/
def twoRecords (slots : Nat) : State :=
  planned (withRecord 1 { owned .active (every 5) with owner := some 1 }
    (withRecord 0 (owned .active (every 3))
      (lineIn .disarmed { att with seq := { att.seq with slots := slots } })))

theorem twoRecords_planLaw (slots : Nat) : PlanLaw (twoRecords slots) := planned_planLaw _

theorem witness_ModifyMovesTheReservation :
    PlanLaw (twoRecords 1) ∧ PlanLaw (twoRecords 2) ∧
    (Free 0 (.modify 0 1 32 (bytesFor 0)) (twoRecords 2) ∧ Control 0 (twoRecords 2) ∧
      32 ≤ (32 : Byte).toNat) ∧
    (¬ Live ((twoRecords 2).record 31) ∧ (31 : Byte).toNat = (31 : SubId).val) ∧
    (Live ((twoRecords 2).record 1) ∧ ((twoRecords 2).record 1).owner ≠ some 0) ∧
    (Live ((twoRecords 2).record 0) ∧ ((twoRecords 2).record 0).owner = some 0 ∧
      ((twoRecords 2).input 12).mode ≠ .analog) ∧
    ((twoRecords 2).input 4).mode = .analog ∧
    ¬ Admitted (twoRecords 1) ((twoRecords 1).record 0).reserved (some (every 4)) ∧
    Admitted (twoRecords 2) ((twoRecords 2).record 0).reserved (some (every 4)) := by
  refine ⟨twoRecords_planLaw 1, twoRecords_planLaw 2, ?_⟩
  unfold Free Control Attached Admitted; decide +kernel

theorem witness_ReleaseLetsGo :
    let s := withRecord 0 (owned .active (every 3)) att
    let r := withRecord 0 (owned .active (every 3)) (seqIn .running att)
    (Free 0 (.release 0 1 32) s ∧ Control 0 s ∧ 32 ≤ (32 : Byte).toNat) ∧ ¬ Live (s.record 31) ∧
    (Live (full.record 0) ∧ (full.record 0).owner ≠ some 1) ∧
    ((full.record 31).state = .staged ∧ (full.record 31).owner = some 0) ∧
    (Live (s.record 0) ∧ (s.record 0).owner = some 0 ∧ s.seq.state = .stopped) ∧
    ((r.record 0).state = .active ∧ (r.record 0).owner = some 0 ∧ r.seq.state ≠ .stopped) := by
  unfold Free Control Attached
  refine ⟨by decide +kernel, by decide +kernel, by decide +kernel, by decide +kernel, by decide +kernel,
    by decide +kernel⟩

theorem witness_JoinAndLeave :
    Attached 2 full ∧ Free 2 (.join 2 1 31) full ∧ Free 2 (.leave 2 1 31) full ∧
    32 ≤ (32 : Byte).toNat ∧ (31 : Byte).toNat = (31 : SubId).val := by
  unfold Attached Free; decide

theorem witness_AdoptTakesAnOrphan :
    Free 1 (.adopt 1 1 31) full ∧ Control 1 full ∧ 32 ≤ (32 : Byte).toNat ∧
    (31 : Byte).toNat = (31 : SubId).val := by
  unfold Free Control Attached; decide

theorem witness_SubscriptionReads :
    Attached 2 att ∧ Free 2 (.readSub 2 1 31) att ∧ Free 2 (.readPlan 2 1 63) att ∧
    32 ≤ (32 : Byte).toNat ∧ (31 : Byte).toNat = (31 : SubId).val ∧
    64 ≤ (64 : Byte).toNat ∧ (63 : Byte).toNat = (63 : Residue).val := by
  unfold Attached Free; decide

theorem witness_RunVotes :
    (∀ st : SeqState, Free 0 (.run 0 1) (seqIn st att) ∧ Control 0 (seqIn st att) ∧
      (seqIn st att).seq.state = st) ∧
    ¬ (att.conv.power = .ready ∧ att.conv.conversion = none) ∧ att.seq.state = .stopped ∧
    ((seqIn .stopped att).conv.power = .ready ∧ (seqIn .stopped att).conv.conversion = none ∧
      (seqIn .stopped att).seq.source = .internal ∧
      (external .waiting (seqIn .stopped att)).seq.source = .external) := by
  refine ⟨fun st => ?_, ?_⟩
  · unfold Free Control Attached; cases st <;> decide
  · decide

theorem witness_StopWithdrawsTheVote :
    let two : State := { seqIn .running att with
      seq := { (seqIn .running att).seq with votes := ⟨true, true, false⟩ } }
    (Free 0 (.stop 0 1) two ∧ Control 0 two) ∧ att.seq.votes.has 0 = false ∧
    (two.seq.votes.has 0 = true ∧ (⟨false, true, false⟩ : PortSet) ≠ ⟨false, false, false⟩) ∧
    ((seqIn .running att).seq.votes.has 0 = true ∧ (seqIn .running att).seq.state = .running) ∧
    ((seqIn .starting att).seq.votes.has 0 = true ∧ (seqIn .starting att).seq.state = .starting) := by
  unfold Free Control Attached; decide

/-- S 0, 16 and 17; while frames run; a plan row that needs more slots. -/
theorem witness_ConfigTimingSetsAllFour :
    (∀ v : Byte, Free 0 (.configTiming 0 1 v 4 0 1) att) ∧ Control 0 att ∧ Control 0 (seqIn .running att) ∧
    ¬ 1 ≤ (0 : Byte).toNat ∧ ¬ (17 : Byte).toNat ≤ 16 ∧ (16 : Byte).toNat ≤ 16 ∧
    (seqIn .running att).seq.state ≠ .stopped ∧
    (oneSlot.seq.state = .stopped ∧
      (∀ x : Residue, inputsDemanded (fun k => oneSlot.subt.plan[x][k]) ≤ (1 : Byte).toNat)) ∧
    ¬ (∀ x : Residue, inputsDemanded (fun k =>
      (twoRecords 2).subt.plan[x][k]) ≤ (1 : Byte).toNat) := by
  refine ⟨fun v => ⟨by decide, fun h => absurd h (by decide)⟩, ?_⟩
  unfold Control Attached; decide +kernel

theorem witness_FrameTimerExpiry :
    (∀ st ∈ [SeqState.running, .halting], (seqIn st att).resetting = none ∧
      (seqIn st att).seq.frameTimer ≠ none ∧ (seqIn st att).seq.sync ≠ .locked ∧
      (seqIn st att).seq.state = st) ∧
    (seqIn .halting att).seq.haltCause = some ⟨0, .stop⟩ := by decide

/-- Entering STOPPED with a ready converter, without and with a waiting spot entry, and with a busy one. -/
theorem witness_EntersStopped :
    (∀ s ∈ [seqIn .halting att, withSpots [entry 1 .waiting] (seqIn .halting att)],
      s.resetting = none ∧ s.conv.power = .ready ∧ s.conv.conversion = none) ∧
    (seqIn .halting att).seq.spots = [] ∧
    (withSpots [entry 1 .waiting] (seqIn .halting att)).seq.spots.head? = some (entry 1 .waiting) ∧
    (entry 1 .waiting).place = .waiting ∧ (busy (seqIn .halting att)).conv.conversion ≠ none := by decide

theorem witness_SyncEdge :
    att.resetting = none ∧ att.seq.source = .internal ∧
    (let s := external .waiting (seqIn .stopped att);
      s.resetting = none ∧ s.seq.state = .stopped) ∧
    (let s := busy (external .waiting (seqIn .starting att));
      s.resetting = none ∧ s.seq.state = .starting ∧ s.conv.conversion ≠ none) ∧
    (let s := external .waiting (seqIn .starting att);
      s.resetting = none ∧ s.seq.source = .external ∧ s.seq.state = .starting ∧ s.seq.sync = .waiting ∧
      s.conv.power = .ready ∧ s.conv.conversion = none ∧ s.seq.starter = some 0) ∧
    (∀ y ∈ [SyncState.locked, .fallback],
      let s := external y (seqIn .running att)
      s.resetting = none ∧ s.seq.source = .external ∧ s.seq.state = .running ∧ s.seq.sync = y ∧
      ∀ x ∈ s.seq.list, x.slot ≤ s.seq.slot) ∧
    ∀ y ∈ [SyncState.locked, .fallback],
      let s := external y (seqIn .halting att)
      s.resetting = none ∧ s.seq.state = .halting ∧ s.seq.haltCause = some ⟨0, .stop⟩ ∧ s.seq.sync = y ∧
      ∀ x ∈ s.seq.list, x.slot ≤ s.seq.slot := by decide

/-- A frame cut before slot 1, with a planned entry due for record 0, which has a window of average 4. -/
def cutState (y : SyncState) : State :=
  withRecord 0 (owned .active (every 3)) ({ external y (seqIn .running att) with
    seq := { (external y (seqIn .running att)).seq with list := [⟨1, 3, .planned, [⟨0, 0⟩]⟩] } }.setWindow 0
      (some { generation := 0, average := .a4, profile := 0 }))

/-- The same in the last frame of HALTING, with the window at its last due frame. -/
def cutLast (y : SyncState) : State :=
  let s := (cutState y).setWindow 0 (some { generation := 0, average := .a4, profile := 0, position := 3 })
  { s with seq := { s.seq with state := .halting } }

/-- The ids due in the planned entries of a state that have not begun. -/
def missedIds (s : State) : List SubId :=
  ((s.seq.list.filter fun x => decide (s.seq.slot < x.slot) && decide (x.origin = .planned)).flatMap
    ListEntry.due).map Due.id

theorem witness_EarlyEdgeCutsTheFrame :
    ∀ y ∈ [SyncState.locked, .fallback],
      (cutState y).resetting = none ∧ (cutState y).seq.source = .external ∧
      (cutState y).seq.state = .running ∧ (cutState y).seq.sync = y ∧
      (∃ x ∈ (cutState y).seq.list, (cutState y).seq.slot < x.slot) ∧
      missedIds (cutState y) = [0] ∧ (missedIds (cutState y)).Nodup ∧
      (cutState y).window 0 = some { generation := 0, average := .a4, profile := 0 } ∧
      0 + 1 < Average.a4.count ∧ ((cutState y).record 0).state = .active ∧
      ((cutState y).record 0).staged = none := by decide

/-- The last due frame of a window, missed in HALTING. -/
theorem witness_EarlyEdge_halting :
    ∀ y ∈ [SyncState.locked, .fallback],
      (cutLast y).resetting = none ∧ (cutLast y).seq.source = .external ∧
      (cutLast y).seq.state = .halting ∧ (cutLast y).seq.sync = y ∧
      (∃ x ∈ (cutLast y).seq.list, (cutLast y).seq.slot < x.slot) ∧ missedIds (cutLast y) = [0] ∧
      (cutLast y).seq.haltCause = some ⟨0, .stop⟩ ∧
      (cutLast y).window 0 = some { generation := 0, average := .a4, profile := 0, position := 3 } ∧
      3 + 1 = Average.a4.count ∧ ((cutLast y).record 0).state = .active ∧
      ((cutLast y).record 0).staged = none := by decide

/-- A record that is not due in the cut frame. -/
theorem witness_EarlyEdge_others :
    let s := withRecord 1 (owned .active (every 5)) (cutState .locked)
    (1 : SubId) ∉ missedIds s ∧ (s.record 1).state = .active ∧ (s.record 1).staged = none := by decide

theorem witness_SyncTimerExpiry :
    (∀ st ∈ [SeqState.running, .starting, .halting],
      (external .locked (seqIn st att)).resetting = none ∧
      (external .locked (seqIn st att)).seq.syncTimer ≠ none ∧
      (external .locked (seqIn st att)).seq.state = st) ∧
    (external .locked (seqIn .starting att)).seq.starter = some 0 ∧
    (external .locked (seqIn .halting att)).seq.haltCause = some ⟨0, .stop⟩ := by decide

/-- The state with the converter WARMING. -/
def warming (s : State) : State := { s with conv := { power := .warming, warmUp := some 40, conversion := none } }

theorem witness_WarmUpEnds :
    (∀ s ∈ [warming att, warming (seqIn .starting att), warming (external .waiting (seqIn .starting att)),
        warming (withSpots [entry 1 .waiting] att)],
      s.resetting = none ∧ s.conv.power = .warming ∧ s.conv.conversion = none) ∧
    ((warming (seqIn .starting att)).seq.state = .starting ∧
      (warming (seqIn .starting att)).seq.source = .internal ∧
      (warming (seqIn .starting att)).seq.sync ≠ .locked) ∧
    (warming (external .waiting (seqIn .starting att))).seq.source = .external ∧
    ((warming att).seq.state = .stopped ∧ (warming att).seq.spots = []) ∧
    (warming (withSpots [entry 1 .waiting] att)).seq.spots.head? = some (entry 1 .waiting) ∧
    (entry 1 .waiting).place = .waiting := by decide

theorem witness_SlotBeginsItsConversion :
    (att.resetting = none ∧ att.seq.state = .stopped ∧ (seqIn .starting att).seq.state = .starting) ∧
    (let s := seqIn .running { att with seq := { att.seq with slot := 8 } };
      s.seq.slots ≤ s.seq.slot) ∧
    (seqIn .running att).seq.slot < (seqIn .running att).seq.slots ∧
    (seqIn .running att).conv.conversion = none ∧ (seqIn .running att).conv.power = .ready ∧
    (cutState .locked).seq.list.find? (fun x => x.slot == (cutState .locked).seq.slot + 1) =
      some ⟨1, 3, .planned, [⟨0, 0⟩]⟩ := by decide

theorem witness_ConversionCompletes :
    (∀ st ∈ [SeqState.running, .halting],
      let s := (busy (seqIn st att)).setWindow 0 (some { generation := 0, average := .a4, profile := 0 })
      s.resetting = none ∧ s.conv.conversion = some conversion ∧ conversion.frame = some 7 ∧
      (conversion.due.map Due.id).Nodup ∧ s.seq.state = st ∧
      s.window 0 = some { generation := 0, average := .a4, profile := 0 } ∧ 0 + 1 < Average.a4.count ∧
      ∀ d ∈ conversion.due, d.id = 1 → (s.window 1).map Window.generation ≠ some d.generation) ∧
    ((busy (external .waiting (seqIn .starting att))).seq.state = .starting ∧
      (busy (external .waiting (seqIn .starting att))).seq.source = .external) ∧
    ((busy (seqIn .starting att)).seq.source = .internal ∧ (busy (seqIn .starting att)).seq.sync ≠ .locked ∧
      (busy (seqIn .starting att)).seq.starter = some 0) ∧
    ((busy att).seq.state = .stopped ∧
      (withSpots [entry 1 .inFlight] (busy att)).seq.spots.filter (fun e => decide (e.place ≠ .inFlight)) = []) ∧
    ((withSpots [entry 1 .inFlight, entry 2 .waiting] (busy att)).seq.spots.filter fun e =>
      decide (e.place ≠ .inFlight)).head? = some (entry 2 .waiting) := by decide

theorem witness_CodeIsTheLimitedQuotient :
    0 < (1 : RefLevel) ∧ (0 : Level) ≤ 0 ∧ ((4096 : RefLevel) : Int) * 4095 ≤ (4095 : Level) * 4096 := by
  decide

theorem witness_SpotsAtABoundary :
    let l : List ListEntry := [⟨1, 3, .planned, []⟩]
    let q : List SpotEntry := [entry 1 .waiting, entry 2 .inFlight, { entry 3 .waiting with input := 4 }]
    l.map ListEntry.slot = (List.range l.length).map (· + 1) ∧ (l.map ListEntry.input).Nodup ∧
    l.length ≤ 1 ∧
    ∃ a ∈ q.zip (assignSpots 1 l q).2, a.1.place ≠ .waiting ∧
    ∃ b ∈ q.zip (assignSpots 1 l q).2, b.1.place = .waiting := by decide

/-- R70: one free slot and two WAITING entries of different inputs: the head gets it. -/
theorem test_assignSpots_head_first :
    let q : List SpotEntry := [{ entry 1 .waiting with input := 9 }, { entry 2 .waiting with input := 4 }]
    (assignSpots 2 [⟨1, 3, .planned, []⟩] q).1.map ListEntry.input = [3, 9] ∧
    (assignSpots 2 [⟨1, 3, .planned, []⟩] q).2.map SpotEntry.place = [.listed 2, .waiting] := by decide

/-- A full queue, and one with four entries of port 0. -/
def eight : State :=
  withSpots ([0, 1, 2, 3, 4, 5, 6, 7].map fun x => { entry x .waiting with port := if x.toNat < 4 then 0 else 1 }) att

theorem witness_SpotIsQueued :
    (Free 0 (.spot 0 1 16 9 0xFF 1) att ∧ Attached 0 att ∧ ¬ (16 : Byte).toNat < 16 ∧ ¬ 1 ≤ (0 : Byte).toNat ∧
      ¬ ((8 : Byte).toNat < 8 ∨ (8 : Byte) = 0xFF)) ∧
    ((15 : Byte).toNat < 16 ∧ (7 : Byte).toNat < 8 ∧ 1 ≤ (1 : Byte).toNat) ∧
    (Free 0 (.spot 0 1 3 0 0xFF 1) eight ∧ ∃ e ∈ eight.seq.spots, e.port = 0 ∧ e.tag = 0) ∧
    ((¬ ∃ e ∈ eight.seq.spots, e.port = 0 ∧ e.tag = 9) ∧ 8 ≤ eight.seq.spots.length) ∧
    (let s := withSpots (eight.seq.spots.take 7) att;
      s.seq.spots.length < 8 ∧ 4 ≤ (s.seq.spots.filter fun e => decide (e.port = 0)).length) ∧
    (Free 0 (.spot 0 1 12 9 0xFF 1) (lineIn .armed att) ∧ ((lineIn .armed att).input 12).mode ≠ .analog) ∧
    ((att.input 15).mode = .analog ∧ att.conv.power ≠ .ready) ∧
    ((seqIn .stopped att).seq.state = .stopped ∧ (seqIn .stopped att).conv.power = .ready ∧
      (seqIn .stopped att).conv.conversion = none) := by
  unfold Free Attached; decide

theorem witness_CancelSpotRemoves :
    let s := withSpots [entry 1 .inFlight, entry 2 .waiting, entry 3 (.listed 1)] att
    (Free 0 (.cancelSpot 0 1 9) s ∧ Attached 0 s ∧ SpotLaw s) ∧
    (∀ e ∈ s.seq.spots, decide (e.port = 0 ∧ e.tag = 9) = false) ∧
    (∃ e ∈ s.seq.spots, decide (e.port = 0 ∧ e.tag = 1) = true ∧ e.place = .inFlight) ∧
    ∃ e ∈ s.seq.spots, decide (e.port = 0 ∧ e.tag = 3) = true ∧ e.place ≠ .inFlight := by
  unfold Free Attached SpotLaw; decide

theorem armed_tripLaw : TripLaw (lineIn .armed att) := by unfold TripLaw Within; decide +kernel

theorem tripped_tripLaw : TripLaw (lineIn .tripped att) := by unfold TripLaw Within; decide +kernel

theorem witness_ConfigInputSetsThePin :
    TripLaw att ∧ TripLaw (lineIn .armed att) ∧
    (Free 0 (.configInput 0 1 12 2 1) att ∧ Control 0 att ∧ Control 0 (lineIn .armed att)) ∧
    ((2 : Byte) = 2 ∧ (11 : Byte).toNat < 12 ∧ ¬ (16 : Byte).toNat < 16) ∧
    ((12 : Byte).toNat = (12 : InputNo).val ∧ ¬ (12 : Byte).toNat < 12) ∧
    (busy att).conv.conversion.map Conversion.input = some 3 ∧
    (((lineIn .armed att).input 12).mode = .trip ∧
      ∃ l : LineNo, lineInput l = 12 ∧ ((lineIn .armed att).line l).state ≠ .disarmed) ∧
    ((att.input 12).useCount = 0 ∧ att.conv.conversion.map Conversion.input ≠ some 12 ∧
      (att.input 12).mode ≠ .trip) ∧
    (((lineIn .armed att).input 12).polarity = .activeHigh ∧ ((lineIn .armed att).input 12).useCount = 0) := by
  refine ⟨att_tripLaw, armed_tripLaw, ?_⟩
  unfold Free Control Attached; decide

theorem witness_ReadsAnswerAndKeep :
    Attached 2 att ∧ Free 2 (.readInputs 2 1) att ∧
    (Free 2 (.readProfile 2 1 7) att ∧ 8 ≤ (8 : Byte).toNat ∧ (7 : Byte).toNat = (7 : ProfileNo).val) ∧
    (Free 2 (.readTrip 2 1 3) att ∧ 4 ≤ (4 : Byte).toNat ∧ (3 : Byte).toNat = (3 : LineNo).val) ∧
    (Free 2 (.readLatest 2 1 [31]) att ∧ (∃ b ∈ [(31 : Byte), 32], 32 ≤ b.toNat) ∧
      [(31 : Byte)] = ([31] : List SubId).map fun i => BitVec.ofNat 8 i.val) := by
  unfold Attached Free; decide

theorem witness_SetProfileStages :
    Free 0 (.setProfile 0 1 7 5 0) att ∧ Control 0 att ∧ 8 ≤ (8 : Byte).toNat ∧
    (7 : Byte).toNat = (7 : ProfileNo).val ∧ (7 : ProfileNo) ≠ 0 := by
  unfold Free Control Attached; decide

theorem witness_ScalingFloorsAndClips :
    4095 ≤ 4095 ∧ ({ gain := 4096, offset := 0 } : Profile).gain = 4096 := by decide

theorem witness_DueFrameEndsOneWay :
    let w : Window := { generation := 0, average := .a4, profile := 0, position := 2 }
    ((att.window 0).map Window.generation ≠ some 0 ∧
      (att.setWindow 0 (some w)).window 0 = some w ∧ w.position + 1 ≠ w.average.count ∧
      (att.setWindow 0 (some { w with position := 3 })).window 0 = some { w with position := 3 } ∧
      3 + 1 = w.average.count) ∧
    AlarmLaw (updateWatch 5 (some (watchIn .highAlarm 3 3)) att) := by
  exact ⟨by decide, by unfold AlarmLaw; decide +kernel⟩

/-- Values at and around both limits (1000, 2000) and the high release level (1950). -/
theorem witness_WatchMoves :
    (let w := watchIn .normal 1 0;
      w.part.low.toInt < w.part.high.toInt ∧
      (w.part.hysteresis.toNat : Int) ≤ w.part.high.toInt - w.part.low.toInt ∧ 1 ≤ w.part.debounce ∧
      (w.part.low.toInt ≤ 1000 ∧ 2000 ≤ w.part.high.toInt) ∧ w.part.high.toInt < 2001 ∧
      999 < w.part.low.toInt ∧ w.part.debounce = 1 ∧ (watchIn .normal 8 0).part.debounce ≠ 1) ∧
    (let w := watchIn .highPending 3 1;
      w.state = .highPending ∧ w.count < w.part.debounce ∧ w.count + 1 < w.part.debounce ∧
      (watchIn .highPending 3 2).count + 1 = w.part.debounce) ∧
    (let w := watchIn .highAlarm 3 3;
      w.state = .highAlarm ∧ w.part.high.toInt - w.part.hysteresis.toNat < 1951 ∧
      1950 ≤ w.part.high.toInt - w.part.hysteresis.toNat ∧ w.part.low.toInt ≤ 1950) ∧
    (let w := watchIn .highAlarm 3 3;
      let m : Watch := { w with part := { w.part with low := -2000, high := -1000 }, state := .lowAlarm };
      m.part.high.toInt = -w.part.low.toInt ∧ m.part.low.toInt = -w.part.high.toInt ∧
      m.part.hysteresis = w.part.hysteresis ∧ m.part.debounce = w.part.debounce ∧ m.count = w.count) := by
  decide

theorem witness_ArmTripArmsOrTrips :
    Free 1 (.armTrip 1 1 0) (lineIn .armed att) ∧ Control 1 (lineIn .armed att) ∧ 4 ≤ (4 : Byte).toNat ∧
    (0 : Byte).toNat = (0 : LineNo).val ∧ ((lineIn .armed att).input (lineInput 3)).mode ≠ .trip ∧
    ((lineIn .armed att).input (lineInput 0)).mode = .trip := by
  unfold Free Control Attached; decide

theorem witness_AckTripMayRelease :
    Free 0 (.ackTrip 0 1 0) (lineIn .tripped att) ∧ Control 0 (lineIn .tripped att) ∧
    TripLaw (lineIn .tripped att) ∧ 4 ≤ (4 : Byte).toNat ∧ (0 : Byte).toNat = (0 : LineNo).val :=
  ⟨by unfold Free; decide, by unfold Control Attached; decide, tripped_tripLaw, by decide, by decide⟩

theorem witness_DisarmTripLeaves :
    Free 0 (.disarmTrip 0 1 0) (lineIn .armed att) ∧ Control 0 (lineIn .armed att) ∧
    TripLaw (lineIn .armed att) ∧ 4 ≤ (4 : Byte).toNat ∧ (0 : Byte).toNat = (0 : LineNo).val :=
  ⟨by unfold Free; decide, by unfold Control Attached; decide, armed_tripLaw, by decide, by decide⟩

theorem witness_ReportsToALine : TripLaw (lineIn .tripped att) := tripped_tripLaw

/-- Queues of 63 and 64 records, and of 14 and 15 entries. -/
theorem witness_PlacementInTheQueues :
    let r : SampleRecord := { kind := .sub, ident := 0 }
    let e : EventEntry := { code := .syncLost, subject := 0, frame := 0, detail := 0 }
    (List.replicate 63 r).length < 64 ∧ 64 ≤ (List.replicate 64 r).length ∧
    (List.replicate 14 e).length < 15 ∧ 15 ≤ (List.replicate 15 e).length ∧
    (∀ l, (List.replicate 15 e).getLast? = some l → l.code ≠ .eventsLost) ∧
    [{ e with code := .eventsLost }].getLast? = some { e with code := .eventsLost } := by
  refine ⟨by decide, by decide, by decide, by decide, ?_, by decide⟩
  intro l h
  have h' : l = { code := .syncLost, subject := 0, frame := 0, detail := 0 } := by simpa using h.symm
  subst h'; decide

theorem witness_ReadSamplesAcknowledges :
    Free 2 (.readSamples 2 1 0 7) att ∧ Attached 2 att := by
  unfold Free Attached; decide

theorem att_deliveryLaw : DeliveryLaw att := by
  intro n
  fin_cases n <;> refine ⟨by decide, by decide, by decide, by decide, by decide, by decide, by decide,
    by decide, fun h => absurd h (by decide), by decide, by decide⟩

theorem witness_ReadEventsAcknowledges :
    Free 2 (.readEvents 2 1 0 15) att ∧ Attached 2 att ∧ DeliveryLaw att :=
  ⟨by unfold Free; decide, by unfold Attached; decide, att_deliveryLaw⟩

/-- The part while a reset lasts: port 1 with an ignored transaction, ports 0 and 2 with SSn high. -/
def inReset : State := then' (inTransaction 1 false (seqIn .running att)) (.reset .resetPin)

theorem inReset_resetLaw : ResetLaw inReset := by unfold ResetLaw; decide +kernel

theorem witness_ResetBeginsAndEnds :
    (inReset.resetting = some .resetPin ∧ inReset.resetting ≠ none ∧ ResetLaw inReset) ∧
    ((∀ kind, Instr.syncEdge ≠ .reset kind) ∧ (∀ s0 s1 s2, Instr.syncEdge ≠ .resetEnd s0 s1 s2) ∧
      (∀ n, Instr.syncEdge ≠ .transactionStart n) ∧ ∀ n mosi, Instr.syncEdge ≠ .commandFrame n mosi) ∧
    (inReset.port 0).transaction = .idle ∧ (inReset.port 1).transaction = .ignored := by
  refine ⟨⟨by decide, by decide, inReset_resetLaw⟩, ?_, by decide, by decide⟩
  exact ⟨fun _ h => (nomatch h), fun _ _ _ h => (nomatch h), fun _ h => (nomatch h), fun _ _ h => (nomatch h)⟩

/-! For the laws that every step keeps: a state that is not the reset state, in which the law holds and a
command waits. -/

/-- The state with a command waiting. -/
def waiting (c : Instr) (s : State) : State := { s with pending := [c] }

theorem witness_PlanLawsKept :
    PlanLaw (waiting (.release 0 1 0) (twoRecords 2)) ∧
    CapacityLaw (waiting (.release 0 1 0) (twoRecords 2)) ∧
    ∃ t, step (waiting (.release 0 1 0) (twoRecords 2)) = .next t :=
  ⟨twoRecords_planLaw 2, by unfold CapacityLaw; decide +kernel, _, rfl⟩

/-- Record 0 STAGED for AIN3, its use count 1, a spot entry for AIN3 of port 2. -/
def inUse : State :=
  (withRecord 0 (owned .staged (every 3)) (withSpots [{ entry 1 .waiting with port := 2 }] att)).setInput 3
    { mode := .analog, useCount := 2, polarity := .activeHigh, drive := .analogInput }

theorem witness_UseLawKept :
    UseLaw (waiting (.release 0 1 0) inUse) ∧ ∃ t, step (waiting (.release 0 1 0) inUse) = .next t :=
  ⟨by unfold UseLaw; decide +kernel, _, rfl⟩

theorem witness_AlarmLawKept :
    let s := waiting (.armTrip 0 1 0) (updateWatch 5 (some (watchIn .highAlarm 3 3)) (lineIn .disarmed att))
    AlarmLaw s ∧ (∀ l : LineNo, (s.line l).state = .armed → s.alarms l = []) ∧ s.alarms 0 = [5] ∧
    ∃ t, step s = .next t :=
  ⟨by unfold AlarmLaw; decide +kernel, by decide, by decide +kernel, _, rfl⟩

theorem witness_DeliveryLawKept :
    DeliveryLaw (waiting (.detach 2 1) att) ∧ ∃ t, step (waiting (.detach 2 1) att) = .next t :=
  ⟨att_deliveryLaw, _, rfl⟩

theorem witness_SessionAndResetLawsKept :
    let s := waiting (.detach 0 1) (withRecord 0 (owned .active (every 3)) att)
    ResetLaw s ∧ SessionLaw s ∧ TripLaw s ∧ ∃ t, step s = .next t := by
  have only : ∀ i : SubId, Live ((withRecord 0 (owned .active (every 3)) att).record i) → i = 0 := by
    decide +kernel
  refine ⟨fun h => absurd rfl h, ⟨fun i h => ?_, ?_, ?_, ?_, ?_, ?_⟩, ?_, _, rfl⟩
  · have h0 : i = 0 := only i h
    subst h0
    exact ⟨rfl, rfl⟩
  · unfold Attached; decide +kernel
  · unfold Control Attached; decide
  · unfold Attached; decide
  · intro p v h
    have hn : ∀ p : ProfileNo, (att.profile p).staged = none := by decide
    exact absurd (h.symm.trans (hn p)) (by simp)
  · unfold Control Attached; decide
  · unfold TripLaw Within; decide +kernel

/-- A command frame taken while a reset lasts, where the law of a lasting reset says something. -/
theorem witness_ResetLaw :
    inReset.resetting ≠ none ∧ ResetLaw (waiting (.commandFrame 1 []) inReset) ∧
    ∃ t, step (waiting (.commandFrame 1 []) inReset) = .next t :=
  ⟨by decide, inReset_resetLaw, _, rfl⟩

/-- SSn of port 1 rises in a transaction that MISOn drives. -/
theorem witness_MisoLaw :
    let s := waiting (.commandFrame 1 [true]) (then' att (.transactionStart 1))
    (s.port 1).miso = .driven true ∧ MisoLaw s ∧ ∃ t, step s = .next t := by
  refine ⟨by decide, ?_, _, rfl⟩
  intro n
  match n with
  | 0 => rfl
  | 1 => rfl
  | 2 => rfl

theorem witness_VoteAndConverterLawsKept :
    (VoteLaw (waiting (.stop 0 1) (seqIn .running att)) ∧
      ∃ t, step (waiting (.stop 0 1) (seqIn .running att)) = .next t) ∧
    (let s := waiting (.slotStart 2500000) { seqIn .running att with
        seq := { (seqIn .running att).seq with slot := 7, list := [⟨8, 3, .spare, []⟩] } };
      ConverterLaw s ∧ CapacityLaw s ∧ ∃ t, step s = .next t) :=
  ⟨⟨by unfold VoteLaw; decide, _, rfl⟩, by unfold ConverterLaw; decide, by unfold CapacityLaw; decide +kernel,
    _, rfl⟩

/-- Record 0 ACTIVE for AIN3 with average 4, its window at position 3. -/
def windowed : State :=
  (withRecord 0 (owned .active { every 3 with average := .a4 }) (busy (seqIn .running att))).setWindow 0
    (some { generation := 0, average := .a4, profile := 0, position := 3, folded := 2, misses := 1, sum := 8190 })

theorem windowed_windowLaw : WindowLaw windowed := by
  have free : ∀ i : SubId, i ≠ 0 → (windowed.record i).state = .free ∧ windowed.window i = none ∧
      windowed.watch i = none := by decide +kernel
  intro i
  by_cases hi : i = 0
  · subst hi
    have hw : windowed.window 0 = some (⟨0, .a4, 0, 3, 8190, 2, 1, false, false, false⟩ : Window) := by decide
    have hr : windowed.record 0 = owned .active { every 3 with average := .a4 } := by decide
    have hx : windowed.watch 0 = none := by decide
    simp [hw, hr, hx, owned, every, Average.count]
  · obtain ⟨h1, h2, h3⟩ := free i hi
    simp [h1, h2, h3]

/-- Line 0 TRIPPED and acknowledged by its one member, record 5 with its watch on it in HIGH_ALARM: CLOSING, or
ACTIVE with a staged change that has no watch. -/
def leaving (r : SubRecord) (frozen : Bool) (window : Option Window) (st : SeqState) : State :=
  (lineIn .tripped (updateWatch 5 (some { watchIn .highAlarm 3 3 with frozen := frozen })
    ((withRecord 5 r (seqIn st att)).setWindow 5 window))).setLine 0
    { state := .tripped, arming := ⟨true, false, false⟩, ack := ⟨true, false, false⟩, count := 1 }

def watched : Params := { every 3 with watch := some (watchIn .highAlarm 3 3).part }

def closingIn (st : SeqState) : State := leaving (owned .closing watched) true none st

def changing : State :=
  leaving { owned .active watched with staged := some (every 3) } false
    (some { generation := 0, average := .a1, profile := 0 }) .running

theorem leaving_windowLaw {r : SubRecord} {frozen : Bool} {window : Option Window} {st : SeqState}
    (h : ∀ i : SubId, i ≠ 5 → ((leaving r frozen window st).record i).state = .free ∧
      (leaving r frozen window st).window i = none ∧ (leaving r frozen window st).watch i = none)
    (hr : (leaving r frozen window st).record 5 = r) (hw : (leaving r frozen window st).window 5 = window)
    (hx : (leaving r frozen window st).watch 5 = some { watchIn .highAlarm 3 3 with frozen := frozen })
    (h5 : (r = owned .closing watched ∧ frozen = true ∧ window = none) ∨
      (r = { owned .active watched with staged := some (every 3) } ∧ frozen = false ∧
        window = some (⟨0, .a1, 0, 0, 0, 0, 0, false, false, false⟩ : Window))) :
    WindowLaw (leaving r frozen window st) := by
  intro i
  by_cases hi : i = 5
  · subst hi
    rw [hr, hw, hx]
    obtain ⟨rfl, rfl, rfl⟩ | ⟨rfl, rfl, rfl⟩ := h5 <;>
      simp [owned, watched, every, watchIn, Average.count]
  · obtain ⟨h1, h2, h3⟩ := h i hi
    simp [h1, h2, h3]

/-- The premise of what a boundary and an entry to STOPPED do to the lines, where an EXIT report releases one:
from a record that becomes FREE (R112), and from a reconfiguration (R111). -/
theorem witness_LineLaws :
    (∀ st ∈ [SeqState.running, .halting, .starting], LineLaws (closingIn st)) ∧ LineLaws changing ∧
    exitIds 0 (fun i => leavesAtPromotion ((closingIn .running).record i)) (closingIn .running) = [5] ∧
    exitIds 0 (fun i => decide (((closingIn .halting).record i).state = .closing)) (closingIn .halting) = [5] ∧
    exitIds 0 (fun i => leavesAtPromotion (changing.record i)) changing = [5] ∧ changing.alarms 0 = [5] ∧
    watchPartChanges (changing.record 5) = true ∧ Releasable [] ((closingIn .halting).line 0) := by
  have laws : ∀ st ∈ [SeqState.running, .halting, .starting], LineLaws (closingIn st) := by
    intro st hst
    have : st = .running ∨ st = .halting ∨ st = .starting := by simpa using hst
    obtain rfl | rfl | rfl := this <;>
      exact ⟨by unfold AlarmLaw; decide +kernel,
        leaving_windowLaw (by decide +kernel) (by decide) (by decide) (by decide) (.inl ⟨rfl, rfl, rfl⟩),
        by unfold TripLaw Within; decide +kernel⟩
  refine ⟨laws, ⟨by unfold AlarmLaw; decide +kernel,
    leaving_windowLaw (by decide +kernel) (by decide) (by decide) (by decide) (.inr ⟨rfl, rfl, rfl⟩),
    by unfold TripLaw Within; decide +kernel⟩, ?_⟩
  decide +kernel

/-- R14, R111, R112, R120: at a boundary and at the end of HALTING the line is released by the EXIT report, with
SUB_ENDED or WATCH_CLEAR before, and the pin becomes inactive. -/
theorem test_exits_release_the_line :
    (∀ s ∈ [closingIn .running, closingIn .halting, changing],
      ((then' s .frameTimerExpiry).line 0).state = .armed ∧
      ((then' s .frameTimerExpiry).input 12).drive = .drivenLow) ∧
    eventsOf (then' (closingIn .running) .frameTimerExpiry) 0 = [(.subEnded, 5, 0), (.tripReleased, 0, 261)] ∧
    eventsOf (then' changing .frameTimerExpiry) 0 = [(.watchClear, 5, 1), (.tripReleased, 0, 261)] := by
  decide +kernel

theorem witness_ProfileAndWindowLawsKept :
    (ProfileLaw (waiting (.setProfile 0 1 1 5 0) (seqIn .running att)) ∧
      ∃ t, step (waiting (.setProfile 0 1 1 5 0) (seqIn .running att)) = .next t) ∧
    WindowLaw (waiting (.conversionComplete 0 2500000) windowed) ∧
    ∃ t, step (waiting (.conversionComplete 0 2500000) windowed) = .next t :=
  ⟨⟨by unfold ProfileLaw; decide, _, rfl⟩, windowed_windowLaw, _, rfl⟩

theorem witness_TripLawKept :
    TripLaw (waiting (.ackTrip 0 1 0) (lineIn .tripped att)) ∧
    ∃ t, step (waiting (.ackTrip 0 1 0) (lineIn .tripped att)) = .next t :=
  ⟨tripped_tripLaw, _, rfl⟩

theorem witness_SpotLawKept :
    SpotLaw (waiting (.cancelSpot 0 1 0) eight) ∧ ∃ t, step (waiting (.cancelSpot 0 1 0) eight) = .next t :=
  ⟨by unfold SpotLaw; decide, _, rfl⟩

end Sys2Proof.Tests
end

section
/-! SUPPORT. How a command that may be taken answers, in terms of its block alone; what events, EXIT reports
and record updates do beside a change of a port controller; and the records, claims and ids of the subscription
commands. -/

namespace Sys2Proof.Machine

open Sys2Proof.Safety

/-! ### Taking a command whose block is known (R153 to R157) -/

/-- Two port controllers that a block cannot tell apart: the same role, session and settings (R131, R149). -/
structure SameSettings (p q : PortCtl) : Prop where
  role : p.role = q.role
  session : p.session = q.session
  policy : p.policy = q.policy
  watermark : p.watermark = q.watermark
  mask : p.mask = q.mask

/-- Taking a frame and opening its command changes no setting of the port. -/
theorem openedPort_settings (tag : Byte) (c : Instr) (p : PortCtl) :
    SameSettings (openedPort tag c p) p := by
  by_cases h : p.holder = .pending
  · rw [openedPort, if_pos h]; exact ⟨rfl, rfl, rfl, rfl, rfl⟩
  · by_cases ha : p.session = .attached <;>
      simp only [openedPort, if_neg h, restartedPort, ha, if_true, if_false] <;>
      constructor <;> simp [ha]

/-- A well-formed command of an ATTACHED CONTROL port passes the checks of R157. -/
theorem portCheck_control {n : Port} {c : Instr} {s : State} (h : Control n s)
    (hw : c.wellFormed = true) : portCheck n c s = none := by
  obtain ⟨ha, hr⟩ := h
  have ha' : (s.port n).session = .attached := ha
  simp [portCheck, hw, ha', hr]

/-- A well-formed command that needs no CONTROL role passes the checks of R157 on an ATTACHED port. -/
theorem portCheck_attached {n : Port} {c : Instr} {s : State} (h : Attached n s)
    (hw : c.wellFormed = true) (hc : needsControl c = false) : portCheck n c s = none := by
  have ha : (s.port n).session = .attached := h
  simp [portCheck, hw, ha, hc]

section
variable {n : Port} {tag : Byte} {c : Instr} {block : State → Reply × State} {s : State} {r : Reply}

/-- A command whose block answers r and changes nothing, whatever the port's own controller holds. -/
theorem hostCommand_answers (h : Free n c s) (hc : portCheck n c s = none)
    (hb : ∀ q : PortCtl, block (withPort n q s) = (r, withPort n q s)) :
    hostCommand n tag c block s = .next (answered n tag r.status r.payload s) :=
  hostCommand_kept h hc (by rw [opened_eq]; exact hb _)

/-- A command that its block refuses, whatever the port's own controller holds. -/
theorem hostCommand_refuses {st : Status} (h : Free n c s) (hc : portCheck n c s = none)
    (hb : ∀ q : PortCtl, block (withPort n q s) = (Reply.refuse st, withPort n q s)) :
    hostCommand n tag c block s = .next (answered n tag st [] s) := hostCommand_answers h hc hb

/-- A command whose block answers r and runs an operation f that neither changes the port controllers nor can
tell the opened port from the port before: the state after f, with the port answered. -/
theorem hostCommand_runs {f : State → State} (h : Free n c s) (hc : portCheck n c s = none)
    (hb : ∀ q : PortCtl, block (withPort n q s) = (r, f (withPort n q s)))
    (hf : ∀ q : PortCtl, SameSettings q (s.port n) → f (withPort n q s) = withPort n q (f s))
    (hp : (f s).hpc = s.hpc) :
    hostCommand n tag c block s = .next (answered n tag r.status r.payload (f s)) := by
  have hsame := hf _ (openedPort_settings tag c (s.port n))
  have hrun : block (opened n tag c s) = (r, withPort n (openedPort tag c (s.port n)) (f s)) := by
    rw [opened_eq, hb, hsame]
  have hhpc : (withPort n (openedPort tag c (s.port n)) (f s)).hpc = (opened n tag c s).hpc := by
    rw [opened_eq, withPort, withPort, hp]
  have hport : (f s).port n = s.port n := by rw [State.port, State.port, hp]
  rw [hostCommand_ran h hc hrun hhpc, answered, hport, hp]
  rfl

end

/-! ### Argument bytes (R174, R175) -/

theorem indexOf_of_ge {k : Nat} {b : Byte} (h : k ≤ b.toNat) : indexOf k b = none :=
  dif_neg (Nat.not_lt.mpr h)

theorem indexOf_of_val {k : Nat} {b : Byte} {i : Fin k} (h : b.toNat = i.val) : indexOf k b = some i := by
  have hlt : b.toNat < k := h ▸ i.isLt
  rw [indexOf, dif_pos hlt]
  exact congrArg some (Fin.ext h)

theorem optionsOf_of_lt {b : Byte} (h : b.toNat < 4) :
    optionsOf b = some (b.getLsbD 0, b.getLsbD 1) := if_pos h

theorem optionsOf_of_ge {b : Byte} (h : 4 ≤ b.toNat) : optionsOf b = none := if_neg (Nat.not_lt.mpr h)

/-! ### Sets of ports, field by field -/

theorem PortSet.add_eq (ps : PortSet) (n : Port) :
    ps.add n = ⟨n = 0 || ps.p0, n = 1 || ps.p1, n = 2 || ps.p2⟩ := by
  fin_cases n <;> rfl

theorem PortSet.drop_eq (ps : PortSet) (n : Port) :
    ps.drop n = ⟨n ≠ 0 && ps.p0, n ≠ 1 && ps.p1, n ≠ 2 && ps.p2⟩ := by
  fin_cases n <;> rfl

/-- The owner and the readers of an owned record. -/
theorem audienceOf_owned {r : SubRecord} {n : Port} (h : r.owner = some n) :
    audienceOf r = ⟨n = 0 || r.readers.p0, n = 1 || r.readers.p1, n = 2 || r.readers.p2⟩ := by
  simp [audienceOf, h]

/-! ### Events beside a change of a port controller (R141, R144) -/

/-- Events reach every port as before when a controller is replaced by one of the same settings. -/
theorem afterEvents_withPort {n : Port} {q : PortCtl} {s : State} (l : List Announced)
    (h : SameSettings q (s.port n)) :
    afterEvents l (withPort n q s) = withPort n q (afterEvents l s) := by
  have hport (m : Port) : SameSettings ((withPort n q s).port m) (s.port m) := by
    rw [withPort_port]
    by_cases hm : m = n
    · rw [if_pos hm, hm]; exact h
    · rw [if_neg hm]; exact ⟨rfl, rfl, rfl, rfl, rfl⟩
  have hreach (m : Port) : reaches (withPort n q s) m = reaches s m := by
    funext a
    simp only [reaches, attached, (hport m).session, (hport m).mask]
  have hqueues : queuesAfter (withPort n q s).seq.fn l (withPort n q s) = queuesAfter s.seq.fn l s := by
    funext m
    have hq : (withPort n q s).queues m = s.queues m := rfl
    have hfn : (withPort n q s).seq.fn = s.seq.fn := rfl
    simp only [queuesAfter, eventsAfter, attnCondition, hq, hfn, hreach m, (hport m).session,
      (hport m).watermark]
  rw [afterEvents, hqueues]
  rfl

/-! ### EXIT reports (R120, R122, R123) -/

/-- Cause EXIT and a subscription id in a detail (Table 10-8). -/
theorem causeDetail_exit (i : SubId) : causeDetail causeExit (idByte i) = BitVec.ofNat 16 (256 + i.val) := by
  revert i; decide

/-- An EXIT report releases its line when the release condition holds, and else does nothing (R120, R123). -/
theorem exitReport_eq (l : LineNo) (i : SubId) (s : State) :
    exitReport l i s =
      if releaseHolds l s = true then
        afterEvents [releasedByExit l i]
          (updateLine l { s.line l with state := .armed, ack := PortSet.empty } s)
      else s := by
  rw [exitReport, judgeRelease, releaseLine_eq, causeDetail_exit]
  rfl

/-- An operation that an EXIT report cannot tell from none commutes with it. -/
theorem exitReport_comm {f : State → State} {l : LineNo} (i : SubId) {s : State}
    (hholds : releaseHolds l (f s) = releaseHolds l s) (hline : (f s).line l = s.line l)
    (hupd : ∀ x, updateLine l x (f s) = f (updateLine l x s))
    (hev : ∀ x, afterEvents [releasedByExit l i] (f (updateLine l x s)) =
      f (afterEvents [releasedByExit l i] (updateLine l x s))) :
    exitReport l i (f s) = f (exitReport l i s) := by
  rw [exitReport_eq, exitReport_eq, hholds, hline, hupd, hev]
  split <;> rfl

theorem exitReport_withPort {n : Port} {q : PortCtl} {s : State} (l : LineNo) (i : SubId)
    (h : SameSettings q (s.port n)) :
    exitReport l i (withPort n q s) = withPort n q (exitReport l i s) :=
  exitReport_comm i rfl rfl (fun _ => rfl) fun _ => afterEvents_withPort _ h

theorem exitReport_hpc (l : LineNo) (i : SubId) (s : State) : (exitReport l i s).hpc = s.hpc := by
  rw [exitReport_eq]
  split <;> rfl

/-! ### One record replaced (R4, R5) -/

theorem recordMoved_record (i j : SubId) (new : SubRecord) (s : State) :
    (recordMoved i new s).record j = if j = i then new else s.record j := put_getElem _ _ _ _

theorem recordMoved_same (i : SubId) (new : SubRecord) (s : State) :
    (recordMoved i new s).record i = new := (recordMoved_record i i new s).trans (if_pos rfl)

theorem recordMoved_others (i : SubId) (new : SubRecord) (s : State) :
    OtherRecordsKept i s (recordMoved i new s) :=
  fun j hj => (recordMoved_record i j new s).trans (if_neg hj)

theorem recordMoved_planMoves (i : SubId) (new : SubRecord) (s : State) :
    PlanMoves (s.record i).reserved new.reserved s (recordMoved i new s) := by
  intro r k
  simp [recordMoved]

theorem recordMoved_useFollows (i : SubId) (new : SubRecord) (s : State) :
    UseFollows (s.record i) new s (recordMoved i new s) :=
  fun _ => tabulate_getElem _ _

/-- The same, with the new record read back. -/
theorem recordMoved_useFollows_read (i : SubId) (new : SubRecord) (s : State) :
    UseFollows (s.record i) ((recordMoved i new s).record i) s (recordMoved i new s) := by
  rw [recordMoved_same]
  exact recordMoved_useFollows i new s

/-- A record update moves the record, its reservation and its use counts, when a reservation that stays has
its claim in the plan table. -/
theorem updateRecord_moved {i : SubId} {new : SubRecord} {s : State}
    (h : (s.record i).reserved = new.reserved →
      ∀ (r : Residue) (k : InputNo), claimAt new.reserved r k ≤ s.subt.plan[r][k]) :
    updateRecord i new s = recordMoved i new s := by
  have hplan : (updateRecord i new s).subt.plan = (recordMoved i new s).subt.plan := by
    refine table_ext fun r => table_ext fun k => ?_
    rw [updateRecord_plan, recordMoved_planMoves]
    by_cases hsame : (s.record i).reserved = new.reserved
    · have hle := h hsame r k
      rw [if_pos hsame, trial, hsame]
      omega
    · rw [if_neg hsame]
  have hinputs : (updateRecord i new s).isel.inputs = (recordMoved i new s).isel.inputs :=
    table_ext fun k =>
      (updateRecord_useFollows i new s k).trans (recordMoved_useFollows i new s k).symm
  rw [updateRecord_eq, hplan, hinputs]
  rfl

/-- A record that no longer reserves anything needs no law of the plan table. -/
theorem updateRecord_unreserved {i : SubId} {new : SubRecord} {s : State} (h : new.reserved = none) :
    updateRecord i new s = recordMoved i new s :=
  updateRecord_moved fun _ r k => by rw [h]; exact Nat.zero_le _

/-- Under the law of the plan table a reservation of a record is counted wherever it claims (R5). -/
theorem claimAt_le_plan {s : State} (h : PlanLaw s) (i : SubId) (r : Residue) (k : InputNo) :
    claimAt (s.record i).reserved r k ≤ s.subt.plan[r][k] := by
  by_cases hc : claimAt (s.record i).reserved r k = 1
  · have hmem : i ∈ (List.finRange 32).filter fun j =>
        decide (claimAt (s.record j).reserved r k = 1) := by
      simpa using hc
    rw [hc, h r k]
    exact List.length_pos_of_mem hmem
  · have hzero : claimAt (s.record i).reserved r k = 0 := by
      cases hres : (s.record i).reserved with
      | none => rfl
      | some p =>
        rw [hres, claimAt_some] at hc
        rw [claimAt_some]
        split at hc
        · exact absurd rfl hc
        · next hn => exact if_neg hn
    rw [hzero]
    exact Nat.zero_le _

theorem SubRecord.live_eq (r : SubRecord) : r.live = decide (Live r) := by
  obtain ⟨state, _⟩ := r
  cases state <;> rfl

/-- A STAGED or ACTIVE record reserves its staged change, when it has one (section 1.1). -/
theorem SubRecord.reserved_staged {r : SubRecord} (h : Live r) (p : Params) :
    { r with staged := some p }.reserved = some p := by
  rcases h with h | h <;> simp [SubRecord.reserved, h]

end Sys2Proof.Machine
end

section
/-! SUPPORT. What the commands of the Subscription Table (chapter 1) answer and do, one lemma for each way out
of a block. -/

namespace Sys2Proof.Machine

open Sys2Proof.Safety

/-! ### CREATE (R8, R9) -/

theorem lowestFree_none {s : State} (h : ∀ i, (s.record i).state ≠ .free) : lowestFree s = none := by
  simpa [lowestFree, subIds] using h

theorem lowestFree_some {s : State} {i : SubId} (hi : (s.record i).state = .free)
    (hlow : ∀ j : SubId, j < i → (s.record j).state ≠ .free) : lowestFree s = some i := by
  rw [lowestFree, subIds, List.find?_eq_some_iff_getElem]
  refine ⟨by simpa using hi, i.val, by simp, by simp, fun j hj => ?_⟩
  simpa using hlow ⟨j, hj.trans i.isLt⟩ hj

section
variable {n : Port} {b : ParamBytes} {options : Byte} {s : State} {p : Params} {i : SubId}

theorem createBlock_badArgument (h : paramsOf b = none ∨ 4 ≤ options.toNat) :
    createBlock n b options s = (Reply.refuse .badArgument, s) := by
  rcases h with h | h
  · simp [createBlock, h]
  · cases hp : paramsOf b <;> simp [createBlock, hp, optionsOf_of_ge h]

variable (hp : paramsOf b = some p) (ho : options.toNat < 4)
include hp ho

theorem createBlock_noEntry (h : lowestFree s = none) :
    createBlock n b options s = (Reply.refuse .noEntry, s) := by
  simp [createBlock, hp, optionsOf_of_lt ho, h]

/-- With a FREE record: the input's mode, then the admission test, then the record (R8, R9). -/
theorem createBlock_found (h : lowestFree s = some i) :
    createBlock n b options s =
      if (s.input p.input).mode ≠ .analog then (Reply.refuse .inputMode, s)
      else if admits s s.subt.plan p = false then (Reply.refuse .noCapacity, s)
      else (Reply.ok [idByte i],
        updateRecord i (createdRecord n (options.getLsbD 0) (options.getLsbD 1) p) s) := by
  simp [createBlock, hp, optionsOf_of_lt ho, h]

end

/-- The admission test of a claim that takes no other's place (R6). -/
theorem admits_new (s : State) (p : Params) : admits s s.subt.plan p = true ↔ Admitted s none (some p) :=
  admits_iff s none p

/-- The fields of a created record, self-deliver putting its owner alone into the reader set (R9). -/
theorem createdRecord_eq (n : Port) (persist deliver : Bool) (p : Params) :
    createdRecord n persist deliver p = {
      state := .staged, owner := some n,
      readers := if deliver then ⟨n = 0, n = 1, n = 2⟩ else ⟨false, false, false⟩,
      persist := persist, current := none, staged := some p, sequence := 0, generation := 0 } := by
  cases deliver <;> simp [createdRecord, PortSet.add_eq, PortSet.empty]

section
variable {n : Port} {persist deliver : Bool} {p : Params} {i : SubId} {s : State}
  (h : (s.record i).state = .free)
include h

/-- The reservation of a created record is new (R5). -/
theorem createdRecord_moved :
    updateRecord i (createdRecord n persist deliver p) s =
      recordMoved i (createdRecord n persist deliver p) s :=
  updateRecord_moved fun hres => by simp [SubRecord.reserved, h, createdRecord] at hres

theorem createdRecord_planMoves :
    PlanMoves none (some p) s (recordMoved i (createdRecord n persist deliver p) s) := by
  have hold : (s.record i).reserved = none := by rw [SubRecord.reserved, h]
  rw [← hold]
  exact recordMoved_planMoves i (createdRecord n persist deliver p) s

end

/-! ### MODIFY (R10, R11) -/

section
variable {n : Port} {id : Byte} {b : ParamBytes} {s : State} {p : Params} {i : SubId}

theorem modifyBlock_badArgument (h : 32 ≤ id.toNat ∨ paramsOf b = none) :
    modifyBlock n id b s = (Reply.refuse .badArgument, s) := by
  rcases h with h | h
  · simp [modifyBlock, indexOf_of_ge h]
  · cases hi : indexOf 32 id <;> simp [modifyBlock, hi, h]

/-- With id and parameter set in range: record, owner, mode, admission test, then the staged change (R10,
R11). -/
theorem modifyBlock_checked (hi : id.toNat = i.val) (hp : paramsOf b = some p) :
    modifyBlock n id b s =
      if ¬ Live (s.record i) then (Reply.refuse .notFound, s)
      else if (s.record i).owner ≠ some n then (Reply.refuse .notOwner, s)
      else if (s.input p.input).mode ≠ .analog then (Reply.refuse .inputMode, s)
      else if admits s (removeClaim (s.record i).reserved s.subt.plan) p = false then
        (Reply.refuse .noCapacity, s)
      else (Reply.ok [], updateRecord i { s.record i with staged := some p } s) := by
  simp only [modifyBlock, indexOf_of_val hi, hp, SubRecord.live_eq, decide_eq_false_iff_not]

end

/-- With a new staged change the reservation of a record moves (R5, R11). -/
theorem stagedRecord_moved {p : Params} {i : SubId} {s : State} (hplan : PlanLaw s) :
    updateRecord i { s.record i with staged := some p } s =
      recordMoved i { s.record i with staged := some p } s := by
  refine updateRecord_moved fun hres r k => ?_
  rw [← hres]
  exact claimAt_le_plan hplan i r k

/-! ### RELEASE (R12 to R14) -/

theorem releaseBlock_badArgument {n : Port} {id : Byte} {s : State} (h : 32 ≤ id.toNat) :
    releaseBlock n id s = (Reply.refuse .badArgument, s) := by
  simp only [releaseBlock, indexOf_of_ge h]

/-- With an id in range: record, owner, then the release (R12). -/
theorem releaseBlock_checked {n : Port} {id : Byte} {s : State} {i : SubId} (hi : id.toNat = i.val) :
    releaseBlock n id s =
      if ¬ Live (s.record i) then (Reply.refuse .notFound, s)
      else if (s.record i).owner ≠ some n then (Reply.refuse .notOwner, s)
      else (Reply.ok [((releaseRecord i s).record i).state.value], releaseRecord i s) := by
  simp only [releaseBlock, indexOf_of_val hi, SubRecord.live_eq, decide_eq_false_iff_not]

/-- The state s with record i FREE and its window, watch and latest table entry dropped (R14). -/
def recordDropped (i : SubId) (s : State) : State :=
  { recordMoved i {} s with
    asu := { s.asu with windows := put s.asu.windows i none }
    wtu := { watches := put s.wtu.watches i none
             alarms := tabulate fun l => (s.alarms l).filter (· != i) }
    dlv := { s.dlv with latest := put s.dlv.latest i none } }

/-- The state s after record i has become FREE with its SUB_ENDED, less the EXIT report of its watch (R14). -/
def recordFreed (i : SubId) (s : State) : State :=
  afterEvents [subEndedOf i (s.record i)] (recordDropped i s)

/-- A watch dropped in an alarm state makes its EXIT report to the line of its binding (R112). -/
theorem exitIfAlarm_filter (i : SubId) (w : Option Watch) (s : State) :
    exitIfAlarm i w s = match w.filter (fun w => w.state.alarm) with
      | none => s
      | some w =>
        match w.part.trip with
        | none => s
        | some l => exitReport l i s := by
  cases w with
  | none => rfl
  | some w =>
    cases ha : w.state.alarm <;> cases ht : w.part.trip <;>
      simp [exitIfAlarm, watchReport, Option.filter, ha, ht]

/-- Whether a dropped watch reports, and to which line, does not depend on the state. -/
theorem exitIfAlarm_cases (i : SubId) (w : Option Watch) :
    (∀ s, exitIfAlarm i w s = s) ∨ ∃ l, ∀ s, exitIfAlarm i w s = exitReport l i s := by
  cases hw : w.filter (fun w => w.state.alarm) with
  | none => exact .inl fun s => by rw [exitIfAlarm_filter, hw]
  | some v =>
    cases ht : v.part.trip with
    | none => exact .inl fun s => by simp [exitIfAlarm_filter, hw, ht]
    | some l => exact .inr ⟨l, fun s => by simp [exitIfAlarm_filter, hw, ht]⟩

/-- What commutes with every EXIT report commutes with that of a dropped watch. -/
theorem exitIfAlarm_comm {f : State → State} {i : SubId} {s : State}
    (h : ∀ l, exitReport l i (f s) = f (exitReport l i s)) (w : Option Watch) :
    exitIfAlarm i w (f s) = f (exitIfAlarm i w s) := by
  obtain hnone | ⟨l, hl⟩ := exitIfAlarm_cases i w
  · rw [hnone, hnone]
  · rw [hl, hl, h]

theorem exitIfAlarm_hpc (i : SubId) (w : Option Watch) (s : State) : (exitIfAlarm i w s).hpc = s.hpc := by
  obtain hnone | ⟨l, hl⟩ := exitIfAlarm_cases i w
  · rw [hnone]
  · rw [hl, exitReport_hpc]

/-- The pin level and the use count are different fields of an input: a line and a record change apart. -/
theorem updateLine_updateRecord (l : LineNo) (x : Line) (i : SubId) (new : SubRecord) (s : State) :
    updateLine l x (updateRecord i new s) = updateRecord i new (updateLine l x s) := by
  have hinputs : (updateLine l x (updateRecord i new s)).isel.inputs =
      (updateRecord i new (updateLine l x s)).isel.inputs := by
    refine table_ext fun k => ?_
    change (updateLine l x (updateRecord i new s)).input k =
      (updateRecord i new (updateLine l x s)).input k
    rw [updateRecord_input, updateLine_eq, updateLine_eq, State.setInput_input, State.setInput_input]
    by_cases hk : k = lineInput l
    · subst hk
      simp only [if_true, updateRecord_input]
      rfl
    · simp only [if_neg hk]
      exact updateRecord_input i new s k
  calc updateLine l x (updateRecord i new s)
      = { updateRecord i new (updateLine l x s) with
          isel := { s.isel with inputs := (updateLine l x (updateRecord i new s)).isel.inputs } } := rfl
    _ = updateRecord i new (updateLine l x s) := by rw [hinputs]; rfl

/-- An EXIT report neither sees nor changes the record and the latest table entry that go with it. -/
theorem exitReport_updateRecord (l : LineNo) (i j : SubId) (new : SubRecord) (x : Option SampleRecord)
    (s : State) :
    exitReport l i (updateRecord j new (s.setLatest j x)) =
      updateRecord j new ((exitReport l i s).setLatest j x) :=
  exitReport_comm (f := fun s => updateRecord j new (s.setLatest j x)) i rfl rfl
    (fun y => updateLine_updateRecord l y j new (s.setLatest j x)) fun _ => rfl

/-- The state in which `freeRecord` makes the EXIT report: SUB_ENDED raised, window and watch dropped. -/
def endedUnwatched (i : SubId) (s : State) : State :=
  updateWatch i none ((afterEvents [subEndedOf i (s.record i)] s).setWindow i none)

/-- A record becomes FREE: the record and all that goes with it, then the EXIT report of its watch (R14,
R112). -/
theorem freeRecord_eq (i : SubId) (s : State) :
    freeRecord i s = exitIfAlarm i (s.watch i) (recordFreed i s) := by
  have hfree : freeRecord i s = updateRecord i {} ((exitIfAlarm i (s.watch i)
      (endedUnwatched i s)).setLatest i none) := by
    rw [freeRecord, raise_eq, SubRecord.audience_eq]
    rfl
  have hfreed : recordFreed i s = updateRecord i {} ((endedUnwatched i s).setLatest i none) := by
    rw [updateRecord_unreserved rfl]
    rfl
  rw [hfree, hfreed]
  exact (exitIfAlarm_comm (f := fun s => updateRecord i {} (s.setLatest i none))
    (fun l => exitReport_updateRecord l i i {} none (endedUnwatched i s)) (s.watch i)).symm

theorem recordFreed_withPort {n : Port} {q : PortCtl} {s : State} (i : SubId)
    (h : SameSettings q (s.port n)) :
    recordFreed i (withPort n q s) = withPort n q (recordFreed i s) :=
  afterEvents_withPort (s := recordDropped i s) _ h

theorem freeRecord_withPort {n : Port} {q : PortCtl} {s : State} (i : SubId)
    (h : SameSettings q (s.port n)) :
    freeRecord i (withPort n q s) = withPort n q (freeRecord i s) := by
  rw [freeRecord_eq, freeRecord_eq, recordFreed_withPort i h]
  exact exitIfAlarm_comm (f := withPort n q) (s := recordFreed i s)
    (fun l => exitReport_withPort l i h) (s.watch i)

theorem freeRecord_hpc (i : SubId) (s : State) : (freeRecord i s).hpc = s.hpc := by
  rw [freeRecord_eq, exitIfAlarm_hpc]
  rfl

theorem freeRecord_record (i : SubId) (s : State) : (freeRecord i s).record i = {} :=
  (updateRecord_record i i {} _).trans (if_pos rfl)

/-- What a frozen watch leaves: itself frozen, the others, and its id in no alarm set (R112). -/
theorem freezeWatch_watch (i j : SubId) (s : State) :
    (freezeWatch i s).watch j =
      if j = i then (s.watch i).map (fun w => { w with frozen := true }) else s.watch j := by
  cases hw : s.watch i with
  | none =>
    by_cases hj : j = i <;> simp [freezeWatch, hw, hj]
  | some w => simpa [freezeWatch, hw] using updateWatch_watch i j (some { w with frozen := true }) s

theorem freezeWatch_alarms {i : SubId} {s : State} (h : s.watch i ≠ none) (l : LineNo) :
    (freezeWatch i s).alarms l = (s.alarms l).filter (· != i) := by
  cases hw : s.watch i with
  | none => exact absurd hw h
  | some w => simp [freezeWatch, hw, updateWatch_alarms, alarmAfter, inAlarmSet]

/-- Freezing a watch changes WTU alone. -/
theorem freezeWatch_eq (i : SubId) (s : State) :
    freezeWatch i s = { s with wtu := (freezeWatch i s).wtu } := by
  cases hw : s.watch i with
  | none => simp [freezeWatch, hw]
  | some w => simp [freezeWatch, hw, updateWatch_eq]

theorem freezeWatch_withPort (n : Port) (q : PortCtl) (i : SubId) (s : State) :
    freezeWatch i (withPort n q s) = withPort n q (freezeWatch i s) := by
  have hkept : (withPort n q s).watch i = s.watch i := rfl
  cases hw : s.watch i with
  | none => simp [freezeWatch, hkept, hw]
  | some w =>
    simp only [freezeWatch, hkept, hw]
    rfl

/-- The state s with record i CLOSING and its window dropped (R13). -/
def recordClosed (i : SubId) (s : State) : State :=
  (recordMoved i { s.record i with state := .closing, staged := none } s).setWindow i none

/-- An ACTIVE record becomes CLOSING: the record with its window, then its watch (R13, R112). -/
theorem closeActive_eq (i : SubId) (s : State) : closeActive i s = freezeWatch i (recordClosed i s) := by
  rw [recordClosed, ← updateRecord_unreserved rfl]
  rfl

theorem closeActive_withPort (n : Port) (q : PortCtl) (i : SubId) (s : State) :
    closeActive i (withPort n q s) = withPort n q (closeActive i s) := by
  rw [closeActive_eq, closeActive_eq]
  exact freezeWatch_withPort n q i (recordClosed i s)

theorem closeActive_hpc (i : SubId) (s : State) : (closeActive i s).hpc = s.hpc := by
  rw [closeActive_eq, freezeWatch_eq]
  rfl

theorem closeActive_record (i : SubId) (s : State) :
    (closeActive i s).record i = { s.record i with state := .closing, staged := none } := by
  rw [closeActive_eq, freezeWatch_eq]
  exact recordMoved_same _ _ _

theorem releaseRecord_free {i : SubId} {s : State} (hlive : Live (s.record i))
    (h : (s.record i).state = .staged ∨ s.seq.state = .stopped) :
    releaseRecord i s = freeRecord i s := by
  rcases hlive with hst | hst
  · simp [releaseRecord, hst]
  · have hstop : s.seq.state = .stopped := h.resolve_left (by simp [hst])
    simp [releaseRecord, hst, hstop]

theorem releaseRecord_close {i : SubId} {s : State} (hst : (s.record i).state = .active)
    (h : s.seq.state ≠ .stopped) : releaseRecord i s = closeActive i s := by
  simp [releaseRecord, hst, h]

section
variable {n : Port} {id : Byte} {s : State} {i : SubId} (hi : id.toNat = i.val)
  (hlive : Live (s.record i)) (ho : (s.record i).owner = some n)
include hi hlive ho

theorem releaseBlock_free (h : (s.record i).state = .staged ∨ s.seq.state = .stopped) :
    releaseBlock n id s = (Reply.ok [0], freeRecord i s) := by
  rw [releaseBlock_checked hi, if_neg (not_not_intro hlive), if_neg (not_not_intro ho),
    releaseRecord_free hlive h, freeRecord_record]
  rfl

theorem releaseBlock_close (hst : (s.record i).state = .active) (h : s.seq.state ≠ .stopped) :
    releaseBlock n id s = (Reply.ok [3], closeActive i s) := by
  rw [releaseBlock_checked hi, if_neg (not_not_intro hlive), if_neg (not_not_intro ho),
    releaseRecord_close hst h, closeActive_record]
  rfl

end

/-! ### JOIN, LEAVE and ADOPT (R15 to R17) -/

section
variable {n : Port} {id : Byte} {s : State} (h : 32 ≤ id.toNat)
include h

theorem joinBlock_badArgument : joinBlock n id s = (Reply.refuse .badArgument, s) := by
  simp only [joinBlock, indexOf_of_ge h]

theorem leaveBlock_badArgument : leaveBlock n id s = (Reply.refuse .badArgument, s) := by
  simp only [leaveBlock, indexOf_of_ge h]

theorem adoptBlock_badArgument : adoptBlock n id s = (Reply.refuse .badArgument, s) := by
  simp only [adoptBlock, indexOf_of_ge h]

end

section
variable {n : Port} {id : Byte} {s : State} {i : SubId} (hi : id.toNat = i.val)
include hi

theorem joinBlock_checked :
    joinBlock n id s =
      if Live (s.record i) then
        (Reply.ok [], withRecord i { s.record i with readers := (s.record i).readers.add n } s)
      else (Reply.refuse .notFound, s) := by
  rw [← ite_not]
  simp only [joinBlock, indexOf_of_val hi, SubRecord.live_eq, decide_eq_false_iff_not]
  rfl

theorem leaveBlock_checked :
    leaveBlock n id s =
      if ¬ Live (s.record i) then (Reply.refuse .notFound, s)
      else if (s.record i).readers.has n = false then (Reply.refuse .notMember, s)
      else (Reply.ok [], withRecord i { s.record i with readers := (s.record i).readers.drop n } s) := by
  simp only [leaveBlock, indexOf_of_val hi, SubRecord.live_eq, decide_eq_false_iff_not]
  rfl

end

/-- A port number alone in a detail (R17). -/
theorem causeDetail_port (n : Port) : causeDetail 0 (portByte n) = BitVec.ofNat 16 n.val := by
  revert n; decide

/-- The state s after port n has become the owner of record i, with SUB_ADOPTED (R17). -/
def recordAdopted (n : Port) (i : SubId) (s : State) : State :=
  let r := { s.record i with owner := some n }
  afterEvents [⟨audienceOf r, .subAdopted, BitVec.ofNat 8 i.val, BitVec.ofNat 16 n.val⟩] (withRecord i r s)

theorem recordAdopted_withPort {n m : Port} {q : PortCtl} {s : State} (i : SubId)
    (h : SameSettings q (s.port n)) :
    recordAdopted m i (withPort n q s) = withPort n q (recordAdopted m i s) :=
  afterEvents_withPort (s := withRecord i { s.record i with owner := some m } s) _ h

theorem adoptBlock_checked {n : Port} {id : Byte} {s : State} {i : SubId} (hi : id.toNat = i.val) :
    adoptBlock n id s =
      if ¬ Live (s.record i) then (Reply.refuse .notFound, s)
      else if (s.record i).owner ≠ none then (Reply.refuse .notOrphan, s)
      else (Reply.ok [], recordAdopted n i s) := by
  have hrec : (setOwner i n s).record i = { s.record i with owner := some n } := put_getElem_same _ _ _
  simp only [adoptBlock, indexOf_of_val hi, SubRecord.live_eq, decide_eq_false_iff_not, raise_eq,
    SubRecord.audience_eq, hrec, causeDetail_port]
  rfl

/-! ### READ_SUB and READ_PLAN (R18, R19) -/

/-- The payload of READ_SUB by Table 10-5. -/
theorem recordPayload_row (r : SubRecord) :
    recordPayload r =
      [r.state.value, portOptByte r.owner, r.readers.value,
        byteOf ((if r.current = none then 0 else 1) + (if r.staged = none then 0 else 2)
          + (if r.persist then 4 else 0))]
        ++ paramRow r.current ++ paramRow r.staged ++ twoBytes r.sequence ++ [r.generation] := by
  have hflags : r.current.isSome.toNat + 2 * r.staged.isSome.toNat + 4 * r.persist.toNat =
      (if r.current = none then 0 else 1) + (if r.staged = none then 0 else 2)
        + (if r.persist then 4 else 0) := by
    cases r.current <;> cases r.staged <;> cases r.persist <;> rfl
  rw [recordPayload, hflags, paramSetBytes_row, paramSetBytes_row, bytesOf_two]

theorem readSubBlock_badArgument {id : Byte} {s : State} (h : 32 ≤ id.toNat) :
    readSubBlock id s = (Reply.refuse .badArgument, s) := by
  simp only [readSubBlock, indexOf_of_ge h]

theorem readSubBlock_ok {id : Byte} {s : State} {i : SubId} (hi : id.toNat = i.val) :
    readSubBlock id s = (Reply.ok (recordPayload (s.record i)), s) := by
  simp only [readSubBlock, indexOf_of_val hi]

theorem readPlanBlock_badArgument {residue : Byte} {s : State} (h : 64 ≤ residue.toNat) :
    readPlanBlock residue s = (Reply.refuse .badArgument, s) := by
  simp only [readPlanBlock, indexOf_of_ge h]

/-- The payload of READ_PLAN: S, the number of demanded inputs, and a pair for each (R19, Table 10-5). -/
theorem readPlanBlock_ok {residue : Byte} {s : State} {x : Residue} (hx : residue.toNat = x.val) :
    readPlanBlock residue s =
      (Reply.ok ([byteOf s.seq.slots, byteOf (plannedInputs s x).length]
        ++ (plannedInputs s x).flatMap fun k => [byteOf k.val, byteOf s.subt.plan[x][k]]), s) := by
  simp only [readPlanBlock, indexOf_of_val hx]

/-- The encodings of Table 10-3, of ports and of sets of ports (R174). -/
theorem fieldValues : FieldValues := by
  refine ⟨rfl, rfl, rfl, rfl, rfl, rfl, rfl, rfl, rfl, rfl, rfl, rfl, ⟨rfl, fun _ => rfl⟩, ?_⟩
  rintro ⟨_ | _, _ | _, _ | _⟩ <;> rfl

end Sys2Proof.Machine
end

section
/-! PROOF. The statements about subscriptions and the acquisition plan. -/

namespace Sys2Proof.Proofs

open Sys2Proof.Machine Sys2Proof.Safety

/-- Settles O17: each way out of CREATE in its order; an admitted CREATE is one `recordMoved`. -/
theorem createAdmitsInOrder : Obligations.CreateAdmitsInOrder := by
  intro n tag b options s hfree hctl
  have hcheck : portCheck n (.create n tag b options) s = none := portCheck_control hctl rfl
  refine ⟨fun hbad => hostCommand_refuses hfree hcheck fun _ => createBlock_badArgument hbad,
    fun p hp ho => ⟨fun hfull => hostCommand_refuses hfree hcheck fun _ =>
      createBlock_noEntry hp ho (lowestFree_none hfull), fun i hi hlow => ?_⟩⟩
  have hfound (q : PortCtl) := createBlock_found (n := n) (s := withPort n q s) hp ho
    (lowestFree_some (s := s) hi hlow)
  refine ⟨fun hmode => hostCommand_refuses hfree hcheck fun q => (hfound q).trans (if_pos hmode),
    fun hmode hfull => hostCommand_refuses hfree hcheck fun q => ?_, fun hmode hadm => ?_⟩
  · have hno : admits s s.subt.plan p = false := by simpa [← admits_new] using hfull
    exact (hfound q).trans ((if_neg (not_not_intro hmode)).trans (if_pos hno))
  · have hyes : ¬ admits s s.subt.plan p = false := by simpa [← admits_new] using hadm
    have hrun : exec (.create n tag b options) s = .next (answered n tag .ok [idByte i]
        (updateRecord i (createdRecord n (options.getLsbD 0) (options.getLsbD 1) p) s)) :=
      hostCommand_runs hfree hcheck
        (fun q => (hfound q).trans ((if_neg (not_not_intro hmode)).trans (if_neg hyes)))
        (fun _ _ => rfl) rfl
    rw [createdRecord_moved hi] at hrun
    exact ⟨_, hrun, rfl, rfl, (recordMoved_same i _ s).trans (createdRecord_eq ..),
      recordMoved_others i _ s, createdRecord_planMoves hi, recordMoved_useFollows_read i _ s⟩

/-- Settles O18: each way out of MODIFY in its order; an admitted MODIFY is one `recordMoved`, since under
`PlanLaw` the old reservation stands in the plan table. -/
theorem modifyMovesTheReservation : Obligations.ModifyMovesTheReservation := by
  intro n tag id b s hfree hctl hplan
  have hcheck : portCheck n (.modify n tag id b) s = none := portCheck_control hctl rfl
  refine ⟨fun hbad => hostCommand_refuses hfree hcheck fun _ => modifyBlock_badArgument hbad,
    fun i p hi hp => ?_⟩
  have hchecked (q : PortCtl) := modifyBlock_checked (n := n) (s := withPort n q s) hi hp
  have hlater (hlive : Live (s.record i)) (ho : (s.record i).owner = some n) (q : PortCtl) :=
    (hchecked q).trans ((if_neg (not_not_intro hlive)).trans (if_neg (not_not_intro ho)))
  refine ⟨fun hlive => hostCommand_refuses hfree hcheck fun q => (hchecked q).trans (if_pos hlive),
    fun hlive ho => hostCommand_refuses hfree hcheck fun q =>
      (hchecked q).trans ((if_neg (not_not_intro hlive)).trans (if_pos ho)),
    fun hlive ho hmode => hostCommand_refuses hfree hcheck fun q =>
      (hlater hlive ho q).trans (if_pos hmode),
    fun hlive ho hmode hfull => hostCommand_refuses hfree hcheck fun q => ?_,
    fun hlive ho hmode hadm => ?_⟩
  · have hno : admits s (removeClaim (s.record i).reserved s.subt.plan) p = false := by
      simpa [← admits_iff] using hfull
    exact (hlater hlive ho q).trans ((if_neg (not_not_intro hmode)).trans (if_pos hno))
  · have hyes : ¬ admits s (removeClaim (s.record i).reserved s.subt.plan) p = false := by
      simpa [← admits_iff] using hadm
    have hrun : exec (.modify n tag id b) s = .next (answered n tag .ok []
        (updateRecord i { s.record i with staged := some p } s)) :=
      hostCommand_runs (f := updateRecord i { s.record i with staged := some p }) hfree hcheck
        (fun q => (hlater hlive ho q).trans ((if_neg (not_not_intro hmode)).trans (if_neg hyes)))
        (fun _ _ => rfl) rfl
    rw [stagedRecord_moved hplan] at hrun
    have hmoves := recordMoved_planMoves i { s.record i with staged := some p } s
    rw [SubRecord.reserved_staged hlive p] at hmoves
    exact ⟨_, hrun, rfl, rfl, recordMoved_same i _ s, recordMoved_others i _ s, hmoves,
      recordMoved_useFollows i _ s⟩

/-- Settles O19: each way out of RELEASE in its order; the record becomes FREE by `freeRecord`, CLOSING by
`closeActive`. -/
theorem releaseLetsGo : Obligations.ReleaseLetsGo := by
  intro n tag id s hfree hctl
  have hcheck : portCheck n (.release n tag id) s = none := portCheck_control hctl rfl
  refine ⟨fun hbad => hostCommand_refuses hfree hcheck fun _ => releaseBlock_badArgument hbad,
    fun i hi => ?_⟩
  have hchecked (q : PortCtl) := releaseBlock_checked (n := n) (s := withPort n q s) hi
  refine ⟨fun hlive => hostCommand_refuses hfree hcheck fun q => (hchecked q).trans (if_pos hlive),
    fun hlive ho => hostCommand_refuses hfree hcheck fun q =>
      (hchecked q).trans ((if_neg (not_not_intro hlive)).trans (if_pos ho)),
    fun hlive ho => ⟨fun h => ?_, fun hst h => ?_⟩⟩
  · have hrun : exec (.release n tag id) s =
        .next (answered n tag .ok [0] (freeRecord i s)) := hostCommand_runs hfree hcheck
      (fun q => releaseBlock_free (s := withPort n q s) hi hlive ho h)
      (fun _ hq => freeRecord_withPort i hq) (freeRecord_hpc i s)
    rw [freeRecord_eq, exitIfAlarm_filter, recordFreed, subEndedOf, audienceOf_owned ho] at hrun
    exact hrun
  · have hrun : exec (.release n tag id) s =
        .next (answered n tag .ok [3] (closeActive i s)) := hostCommand_runs hfree hcheck
      (fun q => releaseBlock_close (s := withPort n q s) hi hlive ho hst h)
      (fun q _ => closeActive_withPort n q i s) (closeActive_hpc i s)
    rw [closeActive_eq, freezeWatch_eq] at hrun
    exact ⟨_, hrun, rfl, rfl, recordMoved_same i _ s, recordMoved_others i _ s,
      recordMoved_planMoves i _ s, recordMoved_useFollows i _ s,
      (freezeWatch_watch i i (recordClosed i s)).trans (if_pos rfl),
      fun j hj => (freezeWatch_watch i j (recordClosed i s)).trans (if_neg hj),
      fun hw l => freezeWatch_alarms (s := recordClosed i s) hw l⟩

/-- Settles O20: JOIN and LEAVE replace one record, with one member of its reader set changed. -/
theorem joinAndLeave : Obligations.JoinAndLeave := by
  intro n tag id s hatt
  refine ⟨fun hfree => ?_, fun hfree => ?_⟩
  · have hcheck : portCheck n (.join n tag id) s = none := portCheck_attached hatt rfl rfl
    refine ⟨fun hbad => hostCommand_refuses hfree hcheck fun _ => joinBlock_badArgument hbad,
    fun i hi => ?_⟩
    have hchecked (q : PortCtl) := joinBlock_checked (n := n) (s := withPort n q s) hi
    dsimp only
    by_cases hlive : Live (s.record i)
    · rw [if_pos hlive, ← PortSet.add_eq]
      exact hostCommand_runs (f := fun s => withRecord i _ s) (r := Reply.ok []) hfree hcheck
        (fun q => (hchecked q).trans (if_pos hlive)) (fun _ _ => rfl) rfl
    · rw [if_neg hlive]
      exact hostCommand_refuses hfree hcheck fun q => (hchecked q).trans (if_neg hlive)
  · have hcheck : portCheck n (.leave n tag id) s = none := portCheck_attached hatt rfl rfl
    refine ⟨fun hbad => hostCommand_refuses hfree hcheck fun _ => leaveBlock_badArgument hbad,
    fun i hi => ?_⟩
    have hchecked (q : PortCtl) := leaveBlock_checked (n := n) (s := withPort n q s) hi
    dsimp only
    by_cases hlive : Live (s.record i)
    · rw [if_neg (not_not_intro hlive)]
      have hmember (q : PortCtl) := (hchecked q).trans (if_neg (not_not_intro hlive))
      by_cases hr : (s.record i).readers.has n = false
      · rw [if_pos hr]
        exact hostCommand_refuses hfree hcheck fun q => (hmember q).trans (if_pos hr)
      · rw [if_neg hr, ← PortSet.drop_eq]
        exact hostCommand_runs (f := fun s => withRecord i _ s) (r := Reply.ok []) hfree hcheck
          (fun q => (hmember q).trans (if_neg hr)) (fun _ _ => rfl) rfl
    · rw [if_pos hlive]
      exact hostCommand_refuses hfree hcheck fun q => (hchecked q).trans (if_pos hlive)

/-- Settles O21: each way out of ADOPT in its order; `recordAdopted` sees no port but by its settings. -/
theorem adoptTakesAnOrphan : Obligations.AdoptTakesAnOrphan := by
  intro n tag id s hfree hctl
  have hcheck : portCheck n (.adopt n tag id) s = none := portCheck_control hctl rfl
  refine ⟨fun hbad => hostCommand_refuses hfree hcheck fun _ => adoptBlock_badArgument hbad,
    fun i hi => ?_⟩
  have hchecked (q : PortCtl) := adoptBlock_checked (n := n) (s := withPort n q s) hi
  dsimp only
  by_cases hlive : Live (s.record i)
  · rw [if_neg (not_not_intro hlive)]
    have howner (q : PortCtl) := (hchecked q).trans (if_neg (not_not_intro hlive))
    by_cases ho : (s.record i).owner ≠ none
    · rw [if_pos ho]
      exact hostCommand_refuses hfree hcheck fun q => (howner q).trans (if_pos ho)
    · have hrun : exec (.adopt n tag id) s =
          .next (answered n tag .ok [] (recordAdopted n i s)) := hostCommand_runs hfree hcheck
        (fun q => (howner q).trans (if_neg ho)) (fun _ hq => recordAdopted_withPort i hq) rfl
      rw [recordAdopted, audienceOf_owned rfl] at hrun
      rw [if_neg ho]
      exact hrun
  · rw [if_pos hlive]
    exact hostCommand_refuses hfree hcheck fun q => (hchecked q).trans (if_pos hlive)

/-- Settles O22: both reads answer from the state and change nothing. -/
theorem subscriptionReads : Obligations.SubscriptionReads := by
  refine ⟨fieldValues, fun n tag arg s hatt => ⟨fun hfree => ?_, fun hfree => ?_⟩⟩
  · have hcheck : portCheck n (.readSub n tag arg) s = none := portCheck_attached hatt rfl rfl
    refine ⟨fun hbad => hostCommand_refuses hfree hcheck fun _ => readSubBlock_badArgument hbad,
    fun i hi => ?_⟩
    have hrun : exec (.readSub n tag arg) s =
        .next (answered n tag .ok (recordPayload (s.record i)) s) :=
      hostCommand_answers (r := Reply.ok (recordPayload (s.record i))) hfree hcheck
        fun q => readSubBlock_ok (s := withPort n q s) hi
    rw [recordPayload_row] at hrun
    exact hrun
  · have hcheck : portCheck n (.readPlan n tag arg) s = none := portCheck_attached hatt rfl rfl
    refine ⟨fun hbad => hostCommand_refuses hfree hcheck fun _ => readPlanBlock_badArgument hbad,
    fun x hx => ?_⟩
    exact hostCommand_answers (r := Reply.ok _) hfree hcheck
      fun q => readPlanBlock_ok (s := withPort n q s) hx

end Sys2Proof.Proofs
end

section
/-! SUPPORT. The argument bytes of CONFIG_TIMING, the plan table against a number of slots, and what the command
answers and does, one lemma for each way out of its block (R48). -/

namespace Sys2Proof.Machine

open Sys2Proof.Safety

/-! ### Argument bytes of CONFIG_TIMING (R174, Table 10-3) -/

theorem rangeOf_eq_some {lo hi v : Nat} {b : Byte} :
    rangeOf lo hi b = some v ↔ (lo ≤ b.toNat ∧ b.toNat ≤ hi) ∧ b.toNat = v := by
  simp only [rangeOf, Option.ite_none_right_eq_some, Option.some.injEq]

theorem sourceOf_eq_some {b : Byte} {source : SyncSource} :
    sourceOf b = some source ↔ b.toNat < 2 ∧ (if b = 1 then .external else .internal) = source := by
  revert b
  cases source <;> decide

/-- A byte is a divider exactly when it is the value of one. -/
theorem dividerOf_eq_some {b : Byte} {d : Divider} : dividerOf b = some d ↔ d.value = b.toNat := by
  revert b
  cases d <;> decide

theorem exists_divider_iff {v : Nat} : (∃ d : Divider, d.value = v) ↔ v ∈ [1, 2, 4, 8] := by
  constructor
  · rintro ⟨d, rfl⟩
    cases d <;> decide
  · simp only [List.mem_cons, List.not_mem_nil, or_false]
    rintro (rfl | rfl | rfl | rfl)
    exacts [⟨.by1, rfl⟩, ⟨.by2, rfl⟩, ⟨.by4, rfl⟩, ⟨.by8, rfl⟩]

/-! ### The plan table against a number of slots (R6, R48) -/

theorem planFits_iff (slots : Nat) (plan : PlanTable) :
    planFits slots plan = true ↔ ∀ x : Residue, inputsDemanded (fun k => plan[x][k]) ≤ slots := by
  simp only [planFits, residues, List.all_eq_true, List.mem_finRange, forall_const, decide_eq_true_eq]
  rfl

/-! ### The ways out of CONFIG_TIMING (R48) -/

/-- The four argument bytes in range (R48). -/
def TimingInRange (slots divider source timeout : Byte) : Prop :=
  1 ≤ slots.toNat ∧ slots.toNat ≤ 16 ∧ divider.toNat ∈ [1, 2, 4, 8] ∧ source.toNat < 2 ∧ 1 ≤ timeout.toNat

theorem TimingInRange.exists_divider {slots divider source timeout : Byte}
    (h : TimingInRange slots divider source timeout) : ∃ d : Divider, d.value = divider.toNat := by
  obtain ⟨-, -, hmem, -, -⟩ := h
  exact exists_divider_iff.mpr hmem

/-- The state s with the four settings replaced, and the sync state that goes with the source (R48). -/
def timingSet (slots : Nat) (d : Divider) (source : SyncSource) (timeout : Nat) (s : State) : State :=
  { s with seq := { s.seq with
      slots := slots, divider := d, source := source, syncTimeout := timeout, sync := restSync source } }

section
variable {slots divider source timeout : Byte} {s : State}

/-- A block that gets past its argument bytes has all four in range. -/
theorem configTimingBlock_badArgument (h : ¬ TimingInRange slots divider source timeout) :
    configTimingBlock slots divider source timeout s = (Reply.refuse .badArgument, s) := by
  unfold configTimingBlock
  split
  next hsl hd hsrc ht =>
    obtain ⟨⟨hlow, hhigh⟩, -⟩ := rangeOf_eq_some.mp hsl
    obtain ⟨⟨ht, -⟩, -⟩ := rangeOf_eq_some.mp ht
    obtain ⟨hsrc, -⟩ := sourceOf_eq_some.mp hsrc
    have hmem : divider.toNat ∈ [1, 2, 4, 8] := exists_divider_iff.mp ⟨_, dividerOf_eq_some.mp hd⟩
    exact absurd ⟨hlow, hhigh, hmem, hsrc, ht⟩ h
  next => rfl

/-- With the arguments in range: sequencer state, plan table against the new S, then the settings (R48). -/
theorem configTimingBlock_checked {d : Divider} (h : TimingInRange slots divider source timeout)
    (hd : d.value = divider.toNat) :
    configTimingBlock slots divider source timeout s =
      if s.seq.state ≠ .stopped then (Reply.refuse .busyState, s)
      else if planFits slots.toNat s.subt.plan = false then (Reply.refuse .noCapacity, s)
      else (Reply.ok [], timingSet slots.toNat d (if source = 1 then .external else .internal)
        timeout.toNat s) := by
  obtain ⟨hlow, hhigh, -, hsrc, ht⟩ := h
  have htop : timeout.toNat ≤ 255 := by omega
  simp only [configTimingBlock, rangeOf_eq_some.mpr ⟨⟨hlow, hhigh⟩, rfl⟩, dividerOf_eq_some.mpr hd,
    sourceOf_eq_some.mpr ⟨hsrc, rfl⟩, rangeOf_eq_some.mpr ⟨⟨ht, htop⟩, rfl⟩]
  rfl

end

end Sys2Proof.Machine
end

section
/-! PROOF. The statement about CONFIG_TIMING. -/

namespace Sys2Proof.Proofs

open Sys2Proof.Machine Sys2Proof.Safety

/-- Settles O25: each way out of CONFIG_TIMING in its order; an admitted one is one `timingSet`. -/
theorem configTimingSetsAllFour : Obligations.ConfigTimingSetsAllFour := by
  intro n tag slots divider source timeout s hfree hctl
  have hcheck : portCheck n (.configTiming n tag slots divider source timeout) s = none :=
    portCheck_control hctl rfl
  refine ⟨fun hbad => hostCommand_refuses hfree hcheck fun _ => configTimingBlock_badArgument hbad,
    fun hin hst => ?_, fun hin hst hfull => ?_, fun hin hst hfits => ?_⟩
  all_goals
    obtain ⟨d, hd⟩ := TimingInRange.exists_divider hin
    have hchecked (q : PortCtl) := configTimingBlock_checked (s := withPort n q s) hin hd
  · exact hostCommand_refuses hfree hcheck fun q => (hchecked q).trans (if_pos hst)
  · have hno : planFits slots.toNat s.subt.plan = false :=
      Bool.eq_false_iff.mpr fun h => hfull ((planFits_iff ..).mp h)
    exact hostCommand_refuses hfree hcheck fun q =>
      (hchecked q).trans ((if_neg (not_not_intro hst)).trans (if_pos hno))
  · have hyes : ¬ planFits slots.toNat s.subt.plan = false := by
      simpa using (planFits_iff ..).mpr hfits
    have hrun : exec (.configTiming n tag slots divider source timeout) s = .next (answered n tag .ok []
        (timingSet slots.toNat d (if source = 1 then .external else .internal) timeout.toNat s)) :=
      hostCommand_runs hfree hcheck
        (fun q => (hchecked q).trans ((if_neg (not_not_intro hst)).trans (if_neg hyes)))
        (fun _ _ => rfl) rfl
    have hrest : restSync (if source = 1 then .external else .internal) =
        if source = 1 then .waiting else .off := by split <;> rfl
    rw [timingSet, hrest] at hrun
    exact ⟨d, hd, hrun⟩

end Sys2Proof.Proofs
end

section
/-! SUPPORT. The trip line of an input, the argument bytes of CONFIG_INPUT and its ways out (R54, R55), and what
READ_INPUTS, READ_PROFILE, READ_TRIP and READ_LATEST answer (R57, R98, R127, R139). -/

namespace Sys2Proof.Machine

open Sys2Proof.Safety

/-! ### The trip line of an input (R51, R114, R115) -/

theorem inputLine_eq_some {k : InputNo} {t : LineNo} : inputLine k = some t ↔ lineInput t = k := by
  revert k t
  decide

theorem inputLine_eq_none {k : InputNo} : inputLine k = none ↔ k.val < 12 := by
  simp [inputLine]

theorem lineHolds_iff {s : State} {k : InputNo} :
    lineHolds s k = true ↔ ∃ t : LineNo, lineInput t = k ∧ (s.line t).state ≠ .disarmed := by
  simp only [← inputLine_eq_some]
  cases h : inputLine k <;> simp [lineHolds, h]

/-- A TRIPPED line is not DISARMED. -/
theorem lineHolds_of_tripped {s : State} {k : InputNo} (h : lineTripped s k = true) :
    lineHolds s k = true := by
  cases hk : inputLine k with
  | none => simp [lineTripped, hk] at h
  | some t =>
    have ht : (s.line t).state = .tripped := by simpa [lineTripped, hk] using h
    simp [lineHolds, hk, ht]

/-- A line that is not DISARMED has its pin in TRIP mode (R115). -/
theorem trip_of_lineHolds {s : State} {k : InputNo} (h : TripLaw s) (hk : lineHolds s k = true) :
    (s.input k).mode = .trip := by
  obtain ⟨t, rfl, ht⟩ := lineHolds_iff.mp hk
  obtain ⟨hlines, -⟩ := h
  obtain ⟨-, -, -, -, hmode, -⟩ := hlines t
  exact hmode ht

/-- Every pin has the state that its mode, its polarity and its line give it (R52, R115). -/
theorem drive_of_tripLaw {s : State} (h : TripLaw s) (k : InputNo) :
    (s.input k).drive = driveFor (s.input k).mode (s.input k).polarity (lineTripped s k) := by
  obtain ⟨-, hinputs⟩ := h
  obtain ⟨-, hdrive⟩ := hinputs k
  rw [hdrive]
  cases (s.input k).mode <;> cases (s.input k).polarity <;> cases lineTripped s k <;> rfl

/-- A pin in TRIP mode has a trip line, so it takes the requested polarity (R54, R55). -/
theorem polarityFor_of_trip {s : State} {k : InputNo} (h : TripLaw s) (hm : (s.input k).mode = .trip)
    (p : Polarity) : polarityFor k p = p := by
  obtain ⟨-, hinputs⟩ := h
  obtain ⟨hline, -⟩ := hinputs k
  exact if_pos (Option.isSome_iff_ne_none.mpr fun hnone => hline hnone hm)

theorem polarityFor_eq (k : InputNo) (p : Polarity) :
    polarityFor k p = if k.val < 12 then .activeHigh else p := by
  rw [← ite_not, polarityFor]
  simp only [Option.isSome_iff_ne_none, ne_eq, inputLine_eq_none]

/-- With no TRIPPED line a pin in TRIP mode is at its inactive level (R52, R115). -/
theorem driveFor_untripped (m : InputMode) (p : Polarity) (tripped : Bool) :
    (m = .trip → tripped = false) →
      driveFor m p tripped =
        match m with
        | .analog => .analogInput
        | .off => .highImpedance
        | .trip => tripLevel p false := by
  intro h
  cases m with
  | analog => rfl
  | off => rfl
  | trip => rw [h rfl]; cases p <;> rfl

/-! ### Argument bytes of CONFIG_INPUT (R54, R174, Table 10-3) -/

/-- The mode that a mode byte in range requests. -/
def requestedMode (mode : Byte) : InputMode := if mode = 0 then .analog else if mode = 1 then .off else .trip

/-- The polarity that a polarity byte in range requests. -/
def requestedPolarity (polarity : Byte) : Polarity := if polarity = 1 then .activeLow else .activeHigh

theorem modeOf_eq_some {b : Byte} {m : InputMode} :
    modeOf b = some m ↔ b.toNat < 3 ∧ requestedMode b = m := by
  revert b
  cases m <;> decide

theorem polarityOf_eq_some {b : Byte} {p : Polarity} :
    polarityOf b = some p ↔ b.toNat < 2 ∧ requestedPolarity b = p := by
  revert b
  cases p <;> decide

theorem requestedMode_eq_trip {b : Byte} (h : b.toNat < 3) : requestedMode b = .trip ↔ b = 2 := by
  revert b
  decide

theorem indexOf_eq_some {n : Nat} {b : Byte} {i : Fin n} : indexOf n b = some i ↔ b.toNat = i.val := by
  refine ⟨fun h => ?_, indexOf_of_val⟩
  by_cases hlt : b.toNat < n
  · rw [indexOf, dif_pos hlt] at h
    exact congrArg Fin.val (Option.some.inj h)
  · rw [indexOf, dif_neg hlt] at h
    cases h

/-- The three argument bytes in range, TRIP for AIN12 to AIN15 only (R54). -/
def InputArgsInRange (input mode polarity : Byte) : Prop :=
  input.toNat < 16 ∧ mode.toNat < 3 ∧ polarity.toNat < 2 ∧ ¬ (mode = 2 ∧ input.toNat < 12)

/-- The block's check of TRIP on an input without a trip line, in the terms of R54. -/
theorem tripOffLine_iff {mode : Byte} {k : InputNo} (h : mode.toNat < 3) :
    requestedMode mode = .trip ∧ (inputLine k).isNone = true ↔ mode = 2 ∧ k.val < 12 := by
  rw [requestedMode_eq_trip h, Option.isNone_iff_eq_none, inputLine_eq_none]

/-! ### The ways out of CONFIG_INPUT (R54, R55) -/

theorem converting_iff {s : State} {k : InputNo} :
    converting s k = true ↔ s.conv.conversion.map Conversion.input = some k := by
  cases h : s.conv.conversion <;> simp [converting, h]

/-- The state s with input k configured: mode, polarity and pin (R55). -/
def inputConfigured (k : InputNo) (m : InputMode) (p : Polarity) (s : State) : State :=
  s.setInput k { s.input k with
    mode := m, polarity := polarityFor k p, drive := driveFor m (polarityFor k p) (lineTripped s k) }

section
variable {input mode polarity : Byte} {s : State}

/-- A block that gets past its argument bytes has all three in range. -/
theorem configInputBlock_badArgument (h : ¬ InputArgsInRange input mode polarity) :
    configInputBlock input mode polarity s = (Reply.refuse .badArgument, s) := by
  unfold configInputBlock
  split
  next k m p hk hm hp =>
    have hval := indexOf_eq_some.mp hk
    obtain ⟨hmode, rfl⟩ := modeOf_eq_some.mp hm
    obtain ⟨hpol, -⟩ := polarityOf_eq_some.mp hp
    refine if_pos ((tripOffLine_iff hmode).mpr ?_)
    by_contra hline
    exact h ⟨hval ▸ k.isLt, hmode, hpol, hval ▸ hline⟩
  next => rfl

/-- With the arguments in range: use, then the trip line, then the input (R54, R55). -/
theorem configInputBlock_checked {k : InputNo} (hk : input.toNat = k.val)
    (h : InputArgsInRange input mode polarity) :
    configInputBlock input mode polarity s =
      let x := s.input k
      let m := requestedMode mode
      let p := requestedPolarity polarity
      if x.useCount ≠ 0 ∨ converting s k = true then (Reply.refuse .inUse, s)
      else if x.mode = .trip ∧ (m ≠ x.mode ∨ p ≠ x.polarity) ∧ lineHolds s k = true then
        (Reply.refuse .tripState, s)
      else (Reply.ok [input, mode, (polarityFor k p).value], inputConfigured k m p s) := by
  obtain ⟨-, hmode, hpol, hline⟩ := h
  rw [hk, ← tripOffLine_iff hmode] at hline
  simp only [configInputBlock, indexOf_of_val hk, modeOf_eq_some.mpr ⟨hmode, rfl⟩,
    polarityOf_eq_some.mpr ⟨hpol, rfl⟩, if_neg hline]
  rfl

end

/-! ### READ_INPUTS, READ_PROFILE, READ_TRIP and READ_LATEST (R57, R98, R127, R139) -/

/-- A two-byte field holds the low 16 bits of a count (R174). -/
theorem bytesOf_two_ofNat (v : Nat) : bytesOf 2 v = twoBytes (BitVec.ofNat 16 v) := by
  have hhigh : BitVec.ofNat 8 (v >>> 8) = (BitVec.ofNat 16 v).extractLsb' 8 8 := by
    apply BitVec.eq_of_toNat_eq
    simp only [BitVec.extractLsb'_toNat, BitVec.toNat_ofNat, Nat.shiftRight_eq_div_pow]
    omega
  have hlow : BitVec.ofNat 8 (v >>> 0) = (BitVec.ofNat 16 v).extractLsb' 0 8 := by
    apply BitVec.eq_of_toNat_eq
    simp only [BitVec.extractLsb'_toNat, BitVec.toNat_ofNat, Nat.shiftRight_eq_div_pow]
    omega
  simp only [bytesOf, twoBytes, Nat.mul_one, Nat.mul_zero, hhigh, hlow]

theorem readProfileBlock_badArgument {index : Byte} {s : State} (h : 8 ≤ index.toNat) :
    readProfileBlock index s = (Reply.refuse .badArgument, s) := by
  simp only [readProfileBlock, indexOf_of_ge h]

theorem readProfileBlock_ok {index : Byte} {s : State} {p : ProfileNo} (hp : index.toNat = p.val) :
    readProfileBlock index s = (Reply.ok (profilePayload (s.profile p)), s) := by
  simp only [readProfileBlock, indexOf_of_val hp]

/-- The payload of READ_PROFILE by Table 10-5. -/
theorem profilePayload_row (x : Profile) :
    profilePayload x = twoBytes x.gain ++ threeBytes x.offset ++
      match x.staged with
      | none => [0, 0, 0, 0, 0, 0, 0xFF]
      | some v => [1] ++ twoBytes v.gain ++ threeBytes v.offset ++ [BitVec.ofNat 8 v.port.val] := by
  rw [profilePayload, bytesOf_two, bytesOf_three]
  cases x.staged with
  | none => rfl
  | some v => simp only [bytesOf_two, bytesOf_three]; rfl

theorem readTripBlock_badArgument {line : Byte} {s : State} (h : 4 ≤ line.toNat) :
    readTripBlock line s = (Reply.refuse .badArgument, s) := by
  simp only [readTripBlock, indexOf_of_ge h]

/-- The payload of READ_TRIP by Table 10-5. -/
theorem readTripBlock_ok {line : Byte} {s : State} {t : LineNo} (ht : line.toNat = t.val) :
    readTripBlock line s =
      (Reply.ok ([(s.line t).state.value, (s.line t).arming.value, (s.line t).ack.value]
        ++ twoBytes (BitVec.ofNat 16 (s.line t).count)
        ++ [(s.input (lineInput t)).mode.value, (s.input (lineInput t)).polarity.value]), s) := by
  simp only [readTripBlock, indexOf_of_val ht, bytesOf_two_ofNat]

/-- One id out of range makes the whole list one that READ_LATEST does not accept (R139). -/
theorem idsOf_none {ids : List Byte} (h : ∃ b ∈ ids, 32 ≤ b.toNat) : idsOf ids = none := by
  induction ids with
  | nil => simp at h
  | cons b rest ih =>
    obtain ⟨x, hx, hbad⟩ := h
    rcases List.mem_cons.mp hx with rfl | hrest
    · simp only [idsOf, indexOf_of_ge hbad]
    · cases hb : indexOf 32 b <;> simp only [idsOf, hb, ih ⟨x, hrest, hbad⟩]

theorem idsOf_map (l : List SubId) : idsOf (l.map fun i => BitVec.ofNat 8 i.val) = some l := by
  induction l with
  | nil => rfl
  | cons i l ih =>
    have hi : indexOf 32 (BitVec.ofNat 8 i.val) = some i := indexOf_of_val <| by
      simp only [BitVec.toNat_ofNat]
      omega
    simp only [List.map_cons, idsOf, hi, ih]

/-- A record of kind EMPTY is the kind, the id and 14 bytes of 0 (R139, R177). -/
theorem sampleRow_empty (i : SubId) :
    sampleRow (emptyRecord i) = [0x80, BitVec.ofNat 8 i.val] ++ List.replicate 14 0 := by
  simp [sampleRow, emptyRecord, idByte, twoBytes, threeBytes]

/-- The answer for one id by Table 10-6: the stored record, or a record of kind EMPTY with the id (R139). -/
theorem latestAnswer_row (s : State) (i : SubId) :
    sampleBytes (latestAnswer s i) =
      match s.dlv.latest[i] with
      | some r => sampleRow r
      | none => [0x80, BitVec.ofNat 8 i.val] ++ List.replicate 14 0 := by
  rw [sampleBytes_row, latestAnswer]
  cases s.dlv.latest[i] with
  | none => exact sampleRow_empty i
  | some r => rfl

theorem readLatestBlock_badArgument {ids : List Byte} {s : State} (h : ∃ b ∈ ids, 32 ≤ b.toNat) :
    readLatestBlock ids s = (Reply.refuse .badArgument, s) := by
  simp only [readLatestBlock, idsOf_none h]

theorem readLatestBlock_ok (l : List SubId) (s : State) :
    readLatestBlock (l.map fun i => BitVec.ofNat 8 i.val) s =
      (Reply.ok (l.flatMap fun i => sampleBytes (latestAnswer s i)), s) := by
  simp only [readLatestBlock, idsOf_map]

end Sys2Proof.Machine
end

section
/-! PROOF. The statements about the configuration of inputs and the reads that answer fields and records. -/

namespace Sys2Proof.Proofs

open Sys2Proof.Machine Sys2Proof.Safety

/-- Settles O37: each way out of CONFIG_INPUT in its order; an accepted one is one `inputConfigured`, and under
`TripLaw` a repeat keeps the pin, and every other CONFIG_INPUT meets no TRIPPED line. -/
theorem configInputSetsThePin : Obligations.ConfigInputSetsThePin := by
  intro n tag input mode polarity s hfree hctl htrip
  have hcheck : portCheck n (.configInput n tag input mode polarity) s = none := portCheck_control hctl rfl
  refine ⟨fun hbad => hostCommand_refuses hfree hcheck fun _ => configInputBlock_badArgument hbad,
    fun k hk hin => ?_⟩
  have hchecked (q : PortCtl) := configInputBlock_checked (s := withPort n q s) hk hin
  dsimp only
  rw [← converting_iff, ← lineHolds_iff]
  refine ⟨fun hused => hostCommand_refuses hfree hcheck fun q => (hchecked q).trans (if_pos hused),
    fun hused hheld => hostCommand_refuses hfree hcheck fun q =>
      (hchecked q).trans ((if_neg hused).trans (if_pos hheld)),
    fun hused hheld => ?_⟩
  have hrun : exec (.configInput n tag input mode polarity) s = .next (answered n tag .ok
      [input, mode, (polarityFor k (requestedPolarity polarity)).value]
      (inputConfigured k (requestedMode mode) (requestedPolarity polarity) s)) :=
    hostCommand_runs (f := inputConfigured k _ _) (r := Reply.ok _) hfree hcheck
      (fun q => (hchecked q).trans ((if_neg hused).trans (if_neg hheld))) (fun _ _ => rfl) rfl
  refine ⟨_, fun ⟨hold, hnew, hpol⟩ => ?_, fun hchanged => ?_, by rw [← polarityFor_eq]; exact hrun⟩
  · have hm : requestedMode mode = (s.input k).mode := Eq.trans hnew hold.symm
    have hp : requestedPolarity polarity = (s.input k).polarity := hpol
    rw [hm, hp, polarityFor_of_trip htrip hold, drive_of_tripLaw htrip]
  · rw [← polarityFor_eq]
    refine driveFor_untripped _ _ _ fun hnew => ?_
    by_contra htripped
    have hholds : lineHolds s k = true := lineHolds_of_tripped (Bool.not_eq_false _ ▸ htripped)
    have hold : (s.input k).mode = .trip := trip_of_lineHolds htrip hholds
    exact hheld ⟨hold, .inr fun hpol => hchanged ⟨hold, hnew, hpol⟩, hholds⟩

/-- Settles O38: each read answers from the state and changes nothing. -/
theorem readsAnswerAndKeep : Obligations.ReadsAnswerAndKeep := by
  refine ⟨fieldValues, fun n tag arg s hatt =>
    ⟨fun hfree => ?_, fun hfree => ?_, fun hfree => ?_, fun ids hlow hhigh hfree => ?_⟩⟩
  · have hcheck : portCheck n (.readInputs n tag) s = none := portCheck_attached hatt rfl rfl
    exact hostCommand_answers (r := Reply.ok (inputsPayload s)) hfree hcheck fun _ => rfl
  · have hcheck : portCheck n (.readProfile n tag arg) s = none := portCheck_attached hatt rfl rfl
    refine ⟨fun hbad => hostCommand_refuses hfree hcheck fun _ => readProfileBlock_badArgument hbad,
      fun p hp => ?_⟩
    have hrun : exec (.readProfile n tag arg) s =
        .next (answered n tag .ok (profilePayload (s.profile p)) s) :=
      hostCommand_answers (r := Reply.ok _) hfree hcheck fun q => readProfileBlock_ok (s := withPort n q s) hp
    rw [profilePayload_row] at hrun
    exact hrun
  · have hcheck : portCheck n (.readTrip n tag arg) s = none := portCheck_attached hatt rfl rfl
    exact ⟨fun hbad => hostCommand_refuses hfree hcheck fun _ => readTripBlock_badArgument hbad,
      fun t ht => hostCommand_answers (r := Reply.ok _) hfree hcheck
        fun q => readTripBlock_ok (s := withPort n q s) ht⟩
  · have hcheck : portCheck n (.readLatest n tag ids) s = none :=
      portCheck_attached hatt (decide_eq_true ⟨hlow, hhigh⟩) rfl
    refine ⟨fun hbad => hostCommand_refuses hfree hcheck fun _ => readLatestBlock_badArgument hbad, ?_⟩
    rintro l rfl
    have hrun : exec (.readLatest n tag (l.map fun i => BitVec.ofNat 8 i.val)) s =
        .next (answered n tag .ok (l.flatMap fun i => sampleBytes (latestAnswer s i)) s) :=
      hostCommand_answers (r := Reply.ok _) hfree hcheck fun q => readLatestBlock_ok l (withPort n q s)
    simp only [latestAnswer_row] at hrun
    exact hrun

end Sys2Proof.Proofs
end

section
/-! SUPPORT. The spot queue by port and tag, the ways out of SPOT and CANCEL_SPOT, and what an accepted one of
either leaves (R61, R67, R68, R73, R76). -/

namespace Sys2Proof.Machine

open Sys2Proof.Safety

/-! ### Entries by port and tag (R66) -/

theorem SpotEntry.isOf_eq (n : Port) (tag : Byte) :
    SpotEntry.isOf n tag = fun e => decide (e.port = n ∧ e.tag = tag) := by
  funext e
  rw [Bool.decide_and]
  rfl

theorem SpotEntry.isOf_iff {n : Port} {tag : Byte} {e : SpotEntry} :
    SpotEntry.isOf n tag e = true ↔ e.port = n ∧ e.tag = tag := by
  rw [SpotEntry.isOf_eq, decide_eq_true_iff]

theorem any_isOf_iff {n : Port} {tag : Byte} {q : List SpotEntry} :
    q.any (SpotEntry.isOf n tag) = true ↔ ∃ e ∈ q, e.port = n ∧ e.tag = tag := by
  simp only [List.any_eq_true, SpotEntry.isOf_iff]

/-- No two entries share port and tag, so those of one port and tag are the one that is found (R66). -/
theorem filter_isOf_eq_singleton {n : Port} {tag : Byte} {s : State} {e : SpotEntry} (h : SpotLaw s)
    (he : e ∈ s.seq.spots) (hown : SpotEntry.isOf n tag e = true) :
    s.seq.spots.filter (SpotEntry.isOf n tag) = [e] := by
  obtain ⟨-, -, hnodup⟩ := h
  obtain ⟨hport, htag⟩ := SpotEntry.isOf_iff.mp hown
  have hself : ∀ x ∈ s.seq.spots, SpotEntry.isOf n tag x = (x == e) := by
    intro x hx
    rw [Bool.eq_iff_iff, beq_iff_eq]
    refine ⟨fun hxown => ?_, fun hxe => hxe ▸ hown⟩
    obtain ⟨hxport, hxtag⟩ := SpotEntry.isOf_iff.mp hxown
    exact List.inj_on_of_nodup_map hnodup hx he
      (Prod.ext (hxport.trans hport.symm) (hxtag.trans htag.symm))
  rw [List.filter_congr hself, List.filter_beq, List.count_eq_one_of_mem hnodup.of_map he]
  rfl

/-! ### The ways out of SPOT (R67) -/

/-- A profile byte in range is FFH or the number of a profile, absent in every other case (R174). -/
theorem spotProfileOf_eq_some {b : Byte} {p : Option ProfileNo} :
    spotProfileOf b = some p ↔ (b.toNat < 8 ∨ b = 0xFF) ∧ indexOf 8 b = p := by
  by_cases hff : b = 0xFF
  · subst hff
    simp [spotProfileOf, indexOf]
  · rw [spotProfileOf, if_neg hff]
    by_cases hlt : b.toNat < 8
    · simp [indexOf, hlt]
    · simp only [indexOf, hlt, hff, dite_false, or_self, false_and, Option.map_none, reduceCtorEq]

/-- The three argument bytes in range (R67). -/
def SpotArgsInRange (input profile timeout : Byte) : Prop :=
  input.toNat < 16 ∧ (profile.toNat < 8 ∨ profile = 0xFF) ∧ 1 ≤ timeout.toNat

section
variable {n : Port} {input tag profile timeout : Byte} {s : State}

/-- A block that gets past its argument bytes has all three in range. -/
theorem spotBlock_badArgument (h : ¬ SpotArgsInRange input profile timeout) :
    spotBlock n input tag profile timeout s = (Reply.refuse .badArgument, s) := by
  unfold spotBlock
  split
  next k p t hk hp ht =>
    have hinput : input.toNat < 16 := indexOf_eq_some.mp hk ▸ k.isLt
    obtain ⟨hprofile, -⟩ := spotProfileOf_eq_some.mp hp
    obtain ⟨⟨htimeout, -⟩, -⟩ := rangeOf_eq_some.mp ht
    exact absurd ⟨hinput, hprofile, htimeout⟩ h
  next => rfl

/-- With the arguments in range: the tag, the queue, the port's share, the mode, then the entry (R67, R68). -/
theorem spotBlock_checked {k : InputNo} (hk : input.toNat = k.val)
    (h : SpotArgsInRange input profile timeout) :
    spotBlock n input tag profile timeout s =
      if ∃ e ∈ s.seq.spots, e.port = n ∧ e.tag = tag then (Reply.refuse .duplicate, s)
      else if 8 ≤ s.seq.spots.length then (Reply.refuse .queueFull, s)
      else if 4 ≤ (s.seq.spots.filter fun e => decide (e.port = n)).length then
        (Reply.refuse .portLimit, s)
      else if (s.input k).mode ≠ .analog then (Reply.refuse .inputMode, s)
      else (Reply.ok [tag, byteOf (s.seq.spots.length + 1)],
        acceptSpot ⟨n, tag, k, indexOf 8 profile, timeout.toNat, false, .waiting⟩ s) := by
  obtain ⟨-, hprofile, htimeout⟩ := h
  have htop : timeout.toNat ≤ 255 := by omega
  simp only [spotBlock, indexOf_of_val hk, spotProfileOf_eq_some.mpr ⟨hprofile, rfl⟩,
    rangeOf_eq_some.mpr ⟨⟨htimeout, htop⟩, rfl⟩, any_isOf_iff]
  rfl

end

/-! ### What an accepted SPOT leaves (R68, R73) -/

/-- The state s with entry e at the tail of the spot queue and in the use count of its input. -/
def spotQueued (e : SpotEntry) (s : State) : State :=
  { s with
    isel := { s.isel with inputs := put s.isel.inputs e.input { s.input e.input with
      useCount := (s.input e.input).useCount + 1 } }
    seq := { s.seq with spots := s.seq.spots ++ [e] } }

/-- The same, with the power-up request of a STOPPED sequencer. -/
def spotQueuedPowered (e : SpotEntry) (s : State) : State :=
  { spotQueued e s with
    conv := if s.seq.state = .stopped ∧ s.conv.power = .off then
      { s.conv with power := .warming, warmUp := some 40 } else s.conv }

/-- The same, with standalone service begun for input k, the input of the head entry. -/
def spotQueuedServed (e : SpotEntry) (k : InputNo) (s : State) : State :=
  conversionBegun k none [] (setSpots (assignStandalone k (s.seq.spots ++ [e])) (spotQueued e s))

theorem acceptSpot_eq (e : SpotEntry) (s : State) :
    acceptSpot e s =
      if s.seq.state = .stopped then startStandalone (powerUp (spotQueued e s)) else spotQueued e s := rfl

theorem startStandalone_idle {s : State}
    (h : ¬ (s.seq.state = .stopped ∧ s.conv.power = .ready ∧ s.conv.conversion = none)) :
    startStandalone s = s :=
  if_neg fun ⟨hstopped, hready, hidle, _⟩ => h ⟨hstopped, hready, hidle⟩

/-- Any WAITING entry makes the queue begin standalone service, and it begins for the head entry, whether or not
that is the one that waits (R73, R74). -/
theorem startStandalone_head {s : State} {x : SpotEntry} (hx : s.seq.spots.head? = some x)
    (hstopped : s.seq.state = .stopped) (hready : s.conv.power = .ready)
    (hidle : s.conv.conversion = none) (hw : s.seq.spots.any SpotEntry.waiting = true) :
    startStandalone s =
      conversionBegun x.input none [] (setSpots (assignStandalone x.input s.seq.spots) s) := by
  obtain ⟨rest, hs⟩ := List.head?_eq_some_iff.mp hx
  rw [startStandalone, if_pos ⟨hstopped, hready, hidle, hw⟩, ← beginConversion_begun]
  simp only [hs]

/-- An entry accepted while standalone service cannot begin. -/
theorem acceptSpot_waits {e : SpotEntry} {s : State}
    (h : ¬ (s.seq.state = .stopped ∧ s.conv.power = .ready ∧ s.conv.conversion = none)) :
    acceptSpot e s = spotQueuedPowered e s := by
  by_cases hstopped : s.seq.state = .stopped
  · have hpowered : powerUp (spotQueued e s) = spotQueuedPowered e s := by
      simp only [powerUp_eq, spotQueuedPowered, hstopped, true_and]
      rfl
    rw [acceptSpot_eq, if_pos hstopped, hpowered]
    refine startStandalone_idle fun ⟨_, hready, hidle⟩ => ?_
    by_cases hoff : s.conv.power = .off
    · simp [spotQueuedPowered, hstopped, hoff] at hready
    · simp only [spotQueuedPowered, hoff, and_false, if_false] at hready hidle
      exact h ⟨hstopped, hready, hidle⟩
  · rw [acceptSpot_eq, if_neg hstopped, spotQueuedPowered, if_neg fun hoff => hstopped hoff.1]
    rfl

/-- A WAITING entry accepted while standalone service can begin. -/
theorem acceptSpot_serves {e x : SpotEntry} {s : State} (hw : e.place = .waiting)
    (hx : (s.seq.spots ++ [e]).head? = some x) (hstopped : s.seq.state = .stopped)
    (hready : s.conv.power = .ready) (hidle : s.conv.conversion = none) :
    acceptSpot e s = spotQueuedServed e x.input s := by
  have hpowered : powerUp (spotQueued e s) = spotQueued e s :=
    if_neg fun hoff : s.conv.power = .off => by simp [hready] at hoff
  rw [acceptSpot_eq, if_pos hstopped, hpowered]
  exact startStandalone_head (s := spotQueued e s) hx hstopped hready hidle
    (by simp [spotQueued, SpotEntry.waiting, hw])

/-- The beginning of a conversion cannot tell a port controller from one of the same settings. -/
theorem conversionBegun_withPort {n : Port} {q : PortCtl} (k : InputNo) (frame : Option FrameNo)
    (due : List Due) {s : State} (h : SameSettings q (s.port n)) :
    conversionBegun k frame due (withPort n q s) = withPort n q (conversionBegun k frame due s) :=
  afterEvents_withPort (s := { s with isel := _, conv := _ }) _ h

theorem spotQueuedServed_withPort {n : Port} {q : PortCtl} (e : SpotEntry) (k : InputNo) {s : State}
    (h : SameSettings q (s.port n)) :
    spotQueuedServed e k (withPort n q s) = withPort n q (spotQueuedServed e k s) :=
  conversionBegun_withPort (s := setSpots _ (spotQueued e s)) k none [] h

/-- Assignment to a standalone conversion changes no entry but its place (R74). -/
theorem assignStandalone_unplaced (k : InputNo) (l : List SpotEntry) :
    (assignStandalone k l).map unplaced = l.map unplaced := by
  induction l with
  | nil => rfl
  | cons x l ih =>
    rw [assignStandalone]
    split
    · rw [List.map_cons, ih]; rfl
    · rfl

theorem spotQueuedServed_input (e : SpotEntry) (k : InputNo) (s : State) (j : InputNo) :
    (spotQueuedServed e k s).input j =
      { s.input j with useCount := (s.input j).useCount + if j = e.input then 1 else 0 } := by
  refine (put_getElem _ _ _ _).trans ?_
  split
  next hj => subst hj; rfl
  next => rfl

/-! ### What an accepted CANCEL_SPOT leaves (R61, R76) -/

/-- The list entries that stay: those planned, begun, or of a spot entry that stays (R76). -/
theorem pruneList_eq (slot : Nat) (kept : List SpotEntry) (list : List ListEntry) :
    pruneList slot kept list = list.filter fun x =>
      decide (x.origin = .planned ∨ x.slot ≤ slot ∨ ∃ y ∈ kept, y.place = .listed x.slot) := by
  refine List.filter_congr fun x _ => ?_
  rw [Bool.eq_iff_iff]
  simp [ListEntry.unbegun, or_assoc]

/-- The state s without the entries of `gone`, one entry of input k. -/
def spotCancelled (gone : SpotEntry → Bool) (k : InputNo) (s : State) : State :=
  let kept := s.seq.spots.filter fun x => !gone x
  { s with
    isel := { s.isel with inputs := put s.isel.inputs k { s.input k with
      useCount := (s.input k).useCount - 1 } }
    seq := { s.seq with
      spots := kept
      list := s.seq.list.filter fun x => decide (x.origin = .planned ∨ x.slot ≤ s.seq.slot ∨
        ∃ y ∈ kept, y.place = .listed x.slot) }
    conv := if s.conv.power = .ready ∧ s.seq.state = .stopped ∧ kept = [] ∧ s.conv.conversion = none then
      { s.conv with power := .off } else s.conv }

theorem removeSpots_singleton {gone : SpotEntry → Bool} {s : State} {e : SpotEntry}
    (h : s.seq.spots.filter gone = [e]) : removeSpots gone s = spotCancelled gone e.input s := by
  simp only [removeSpots, h, List.foldl_cons, List.foldl_nil, judgePower_eq, pruneList_eq]
  rfl

section
variable {n : Port} {tag : Byte} {s : State} {e : SpotEntry}

theorem cancelSpotBlock_notFound (h : ∀ e ∈ s.seq.spots, SpotEntry.isOf n tag e = false) :
    cancelSpotBlock n tag s = (Reply.refuse .notFound, s) := by
  have hnone : s.seq.spots.find? (SpotEntry.isOf n tag) = none := by
    simpa [List.find?_eq_none] using h
  rw [cancelSpotBlock, hnone]

/-- The one entry of the port and tag: in flight, or taken out (R76). -/
theorem cancelSpotBlock_found (h : s.seq.spots.filter (SpotEntry.isOf n tag) = [e]) :
    cancelSpotBlock n tag s =
      if e.place = .inFlight then (Reply.refuse .inFlight, s)
      else (Reply.ok [], spotCancelled (SpotEntry.isOf n tag) e.input s) := by
  have hfind : s.seq.spots.find? (SpotEntry.isOf n tag) = some e := by
    rw [← List.head?_filter, h]
    rfl
  rw [cancelSpotBlock, hfind, removeSpots_singleton h]

end

end Sys2Proof.Machine
end

section
/-! PROOF. The statements about SPOT and CANCEL_SPOT. -/

namespace Sys2Proof.Proofs

open Sys2Proof.Machine Sys2Proof.Safety

/-- Settles O35: each way out of SPOT in its order; an accepted one is `spotQueuedPowered`, and
`spotQueuedServed` for the head entry when a standalone conversion can begin. -/
theorem spotIsQueued : Obligations.SpotIsQueued := by
  intro n tag input spotTag profile timeout s hfree hatt
  have hcheck : portCheck n (.spot n tag input spotTag profile timeout) s = none :=
    portCheck_attached hatt rfl rfl
  have hchecked {k : InputNo} (hk : input.toNat = k.val) (hin : SpotArgsInRange input profile timeout)
      (q : PortCtl) := spotBlock_checked (n := n) (tag := spotTag) (s := withPort n q s) hk hin
  have hinput (hin : SpotArgsInRange input profile timeout) (q : PortCtl) :=
    hchecked (k := ⟨_, hin.left⟩) rfl hin q
  refine ⟨fun hbad => hostCommand_refuses hfree hcheck fun _ => spotBlock_badArgument hbad,
    fun hin hsame => hostCommand_refuses hfree hcheck fun q =>
      (hinput hin q).trans (if_pos hsame),
    fun hin hnew hfull => hostCommand_refuses hfree hcheck fun q =>
      (hinput hin q).trans ((if_neg hnew).trans (if_pos hfull)),
    fun hin hnew hroom hshare => hostCommand_refuses hfree hcheck fun q =>
      (hinput hin q).trans ((if_neg hnew).trans ((if_neg (Nat.not_le.mpr hroom)).trans (if_pos hshare))),
    fun k hk => ⟨fun hin hnew hroom hshare hmode => hostCommand_refuses hfree hcheck fun q =>
      (hchecked hk hin q).trans ((if_neg hnew).trans ((if_neg (Nat.not_le.mpr hroom)).trans
        ((if_neg (Nat.not_le.mpr hshare)).trans (if_pos hmode)))),
    fun hin hnew hroom hshare hmode => ?_⟩⟩
  intro e _
  have haccepted (q : PortCtl) :
      spotBlock n input spotTag profile timeout (withPort n q s) =
        (Reply.ok [spotTag, byteOf (s.seq.spots.length + 1)], acceptSpot e (withPort n q s)) :=
    (hchecked hk hin q).trans ((if_neg hnew).trans ((if_neg (Nat.not_le.mpr hroom)).trans
      ((if_neg (Nat.not_le.mpr hshare)).trans (if_neg (not_not_intro hmode)))))
  refine ⟨fun hwaits => ?_, fun hstopped hready hidle => ?_⟩
  · exact hostCommand_runs (f := spotQueuedPowered e) hfree hcheck
      (fun q => (haccepted q).trans (congrArg (Prod.mk _) (acceptSpot_waits hwaits)))
      (fun _ _ => rfl) rfl
  · obtain ⟨x, hx⟩ : ∃ x, (s.seq.spots ++ [e]).head? = some x :=
      ⟨_, List.head?_eq_some_head (by simp)⟩
    have hrun := hostCommand_runs (tag := tag) (f := spotQueuedServed e x.input) hfree hcheck
      (fun q => (haccepted q).trans
        (congrArg (Prod.mk _) (acceptSpot_serves (s := withPort n q s) rfl hx hstopped hready hidle)))
      (fun _ hq => spotQueuedServed_withPort e x.input hq) rfl
    refine ⟨_, hrun, rfl, rfl, rfl, rfl, rfl, assignStandalone_unplaced x.input _,
      spotQueuedServed_input e x.input s, rfl, ?_, ?_⟩ <;> rw [hx] <;> rfl

/-- Settles O36: each way out of CANCEL_SPOT in its order; under `SpotLaw` the entries of the port and tag are
the one that is found, so an accepted one is one `spotCancelled`. -/
theorem cancelSpotRemoves : Obligations.CancelSpotRemoves := by
  intro n tag spotTag s hfree hatt hlaw
  have hcheck : portCheck n (.cancelSpot n tag spotTag) s = none := portCheck_attached hatt rfl rfl
  intro own
  have hisOf : own = SpotEntry.isOf n spotTag := (SpotEntry.isOf_eq n spotTag).symm
  clear_value own
  subst hisOf
  refine ⟨fun hnone => hostCommand_refuses hfree hcheck fun _ => cancelSpotBlock_notFound hnone,
    fun e he hown => ?_⟩
  have hfound (q : PortCtl) := cancelSpotBlock_found (s := withPort n q s)
    (filter_isOf_eq_singleton hlaw he hown)
  exact ⟨fun hflight => hostCommand_refuses hfree hcheck fun q => (hfound q).trans (if_pos hflight),
    fun hflight => hostCommand_runs (f := spotCancelled (SpotEntry.isOf n spotTag) e.input)
      (r := Reply.ok []) hfree hcheck (fun q => (hfound q).trans (if_neg hflight)) (fun _ _ => rfl) rfl⟩

end Sys2Proof.Proofs
end

section
/-! SUPPORT. The ways out of SET_PROFILE. -/

namespace Sys2Proof.Machine

open Sys2Proof.Safety

/-! ### The ways out of SET_PROFILE (R93, R94, R95) -/

theorem stagedByOther_iff {n : Port} {x : Profile} :
    stagedByOther n x = true ↔ ∃ v, x.staged = some v ∧ v.port ≠ n := by
  cases h : x.staged <;> simp [stagedByOther, h]

section
variable {n : Port} {index : Byte} {gain : BitVec 16} {offset : BitVec 24} {s : State}

/-- P0 and an index above 7 are refused, whatever the sequencer does (R93). -/
theorem setProfileBlock_badArgument (h : index = 0 ∨ 8 ≤ index.toNat) :
    setProfileBlock n index gain offset s = (Reply.refuse .badArgument, s) := by
  rcases h with rfl | hhigh
  · rfl
  · simp only [setProfileBlock, indexOf_of_ge hhigh]

/-- With a profile other than P0: the active value, the conflict, or the staged value (R93, R94, R95). -/
theorem setProfileBlock_checked {p : ProfileNo} (hp : index.toNat = p.val) (hp0 : p ≠ 0) :
    setProfileBlock n index gain offset s =
      if s.seq.state = .stopped then
        (Reply.ok [index, 0], s.setProfile p { s.profile p with gain := gain, offset := offset })
      else if ∃ v, (s.profile p).staged = some v ∧ v.port ≠ n then (Reply.refuse .stagedConflict, s)
      else (Reply.ok [index, 1],
        s.setProfile p { s.profile p with staged := some ⟨gain, offset, n⟩ }) := by
  simp only [setProfileBlock, indexOf_of_val hp, if_neg hp0, stagedByOther_iff]

end

end Sys2Proof.Machine
end

section
/-! PROOF. The statement about SET_PROFILE. -/

namespace Sys2Proof.Proofs

open Sys2Proof.Machine Sys2Proof.Safety

/-- Settles O39: each way out of SET_PROFILE in its order; a written one replaces the profile's active value
while STOPPED, and its staged value else. -/
theorem setProfileStages : Obligations.SetProfileStages := by
  intro n tag index gain offset s hfree hctl
  have hcheck : portCheck n (.setProfile n tag index gain offset) s = none := portCheck_control hctl rfl
  refine ⟨fun hbad => hostCommand_refuses hfree hcheck fun _ => setProfileBlock_badArgument hbad,
    fun p hp hp0 => ?_⟩
  have hchecked (q : PortCtl) := setProfileBlock_checked (n := n) (gain := gain) (offset := offset)
    (s := withPort n q s) hp hp0
  dsimp only
  by_cases hstopped : s.seq.state = .stopped
  · rw [if_pos hstopped]
    exact hostCommand_runs (f := fun s => s.setProfile p { s.profile p with gain := gain, offset := offset })
      (r := Reply.ok [index, 0]) hfree hcheck (fun q => (hchecked q).trans (if_pos hstopped))
      (fun _ _ => rfl) rfl
  · rw [if_neg hstopped]
    by_cases hother : ∃ v, (s.profile p).staged = some v ∧ v.port ≠ n
    · rw [if_pos hother]
      exact hostCommand_refuses hfree hcheck fun q =>
        (hchecked q).trans ((if_neg hstopped).trans (if_pos hother))
    · rw [if_neg hother]
      exact hostCommand_runs
        (f := fun s => s.setProfile p { s.profile p with staged := some ⟨gain, offset, n⟩ })
        (r := Reply.ok [index, 1]) hfree hcheck
        (fun q => (hchecked q).trans ((if_neg hstopped).trans (if_neg hother))) (fun _ _ => rfl) rfl

end Sys2Proof.Proofs
end

section
/-! SUPPORT. One evaluation of a watch, state by state, and its mirror image: the same watch seen with the high
and the low side exchanged. -/

namespace Sys2Proof.Machine

/-! ### One evaluation, by the state in which it finds the watch (R103, R104, R105) -/

theorem riseHigh_of_one {d : Nat} (h : d = 1) :
    riseHigh d = ⟨.highAlarm, 1, [.watchAlarmHigh], some .entry⟩ := if_pos h

theorem riseHigh_of_ne_one {d : Nat} (h : d ≠ 1) : riseHigh d = ⟨.highPending, 1, [], none⟩ := if_neg h

theorem riseLow_of_one {d : Nat} (h : d = 1) :
    riseLow d = ⟨.lowAlarm, 1, [.watchAlarmLow], some .entry⟩ := if_pos h

theorem riseLow_of_ne_one {d : Nat} (h : d ≠ 1) : riseLow d = ⟨.lowPending, 1, [], none⟩ := if_neg h

section
variable {w : Watch} {v : Int}

theorem moveWatch_of_normal (h : w.state = .normal) :
    moveWatch w v =
      if w.part.high.toInt < v then riseHigh w.part.debounce
      else if v < w.part.low.toInt then riseLow w.part.debounce
      else ⟨.normal, 0, [], none⟩ := by
  simp only [moveWatch, h]

theorem moveWatch_of_highPending (h : w.state = .highPending) :
    moveWatch w v =
      if w.part.high.toInt < v then
        if w.count + 1 < w.part.debounce then ⟨.highPending, w.count + 1, [], none⟩
        else ⟨.highAlarm, w.part.debounce, [.watchAlarmHigh], some .entry⟩
      else if v < w.part.low.toInt then ⟨.lowPending, 1, [], none⟩
      else ⟨.normal, 0, [], none⟩ := by
  simp only [moveWatch, h]

theorem moveWatch_of_lowPending (h : w.state = .lowPending) :
    moveWatch w v =
      if v < w.part.low.toInt then
        if w.count + 1 < w.part.debounce then ⟨.lowPending, w.count + 1, [], none⟩
        else ⟨.lowAlarm, w.part.debounce, [.watchAlarmLow], some .entry⟩
      else if w.part.high.toInt < v then ⟨.highPending, 1, [], none⟩
      else ⟨.normal, 0, [], none⟩ := by
  simp only [moveWatch, h]

theorem moveWatch_of_highAlarm (h : w.state = .highAlarm) :
    moveWatch w v =
      if highRelease w.part < v then ⟨.highAlarm, w.part.debounce, [], none⟩
      else if v < w.part.low.toInt then
        if w.part.debounce = 1 then ⟨.lowAlarm, 1, [.watchClear, .watchAlarmLow], some .entry⟩
        else ⟨.lowPending, 1, [.watchClear], some .exit⟩
      else ⟨.normal, 0, [.watchClear], some .exit⟩ := by
  simp only [moveWatch, h]

theorem moveWatch_of_lowAlarm (h : w.state = .lowAlarm) :
    moveWatch w v =
      if v < lowRelease w.part then ⟨.lowAlarm, w.part.debounce, [], none⟩
      else if w.part.high.toInt < v then
        if w.part.debounce = 1 then ⟨.highAlarm, 1, [.watchClear, .watchAlarmHigh], some .entry⟩
        else ⟨.highPending, 1, [.watchClear], some .exit⟩
      else ⟨.normal, 0, [.watchClear], some .exit⟩ := by
  simp only [moveWatch, h]

/-- Every value below is at or under the high release level too, so it ends HIGH_ALARM (R105). -/
theorem le_highRelease_of_below {p : WatchPart}
    (hhyst : (p.hysteresis.toNat : Int) ≤ p.high.toInt - p.low.toInt) (hbelow : v < p.low.toInt) :
    v ≤ highRelease p := by
  unfold highRelease; omega

end

/-! ### The sides exchanged (R104, R105) -/

/-- A watch state with the high and the low side exchanged. -/
def WatchState.mirror : WatchState → WatchState
  | .normal => .normal
  | .highPending => .lowPending
  | .lowPending => .highPending
  | .highAlarm => .lowAlarm
  | .lowAlarm => .highAlarm

/-- A watch event with the high and the low side exchanged. -/
def EventCode.mirror (c : EventCode) : EventCode :=
  if c = .watchAlarmHigh then .watchAlarmLow else if c = .watchAlarmLow then .watchAlarmHigh else c

/-- The outcome of an evaluation with the high and the low side exchanged. -/
def WatchMove.mirror (m : WatchMove) : WatchMove :=
  ⟨m.state.mirror, m.count, m.events.map EventCode.mirror, m.report⟩

@[simp] theorem WatchState.mirror_mirror (x : WatchState) : x.mirror.mirror = x := by
  cases x <;> rfl

@[simp] theorem EventCode.mirror_mirror (c : EventCode) : c.mirror.mirror = c := by
  cases c <;> rfl

@[simp] theorem WatchMove.mirror_mirror (m : WatchMove) : m.mirror.mirror = m := by
  simp [WatchMove.mirror, Function.comp_def]

theorem riseHigh_mirror (d : Nat) : (riseHigh d).mirror = riseLow d := by
  unfold riseHigh riseLow
  split <;> rfl

theorem riseLow_mirror (d : Nat) : (riseLow d).mirror = riseHigh d := by
  rw [← riseHigh_mirror, WatchMove.mirror_mirror]

/-- The watch `w'` is `w` with the sides exchanged: limits negated and swapped, the state mirrored, and the
hysteresis, debounce and count the same. -/
structure Watch.Mirrors (w w' : Watch) : Prop where
  high : w'.part.high.toInt = -w.part.low.toInt
  low : w'.part.low.toInt = -w.part.high.toInt
  hysteresis : w'.part.hysteresis = w.part.hysteresis
  debounce : w'.part.debounce = w.part.debounce
  count : w'.count = w.count
  state : w'.state = w.state.mirror

namespace Watch.Mirrors

variable {w w' : Watch}

theorem symm (h : Mirrors w w') : Mirrors w' w where
  high := by rw [h.low, neg_neg]
  low := by rw [h.high, neg_neg]
  hysteresis := h.hysteresis.symm
  debounce := h.debounce.symm
  count := h.count.symm
  state := by rw [h.state, WatchState.mirror_mirror]

theorem above_iff (h : Mirrors w w') (v : Int) : w'.part.high.toInt < -v ↔ v < w.part.low.toInt := by
  rw [h.high, neg_lt_neg_iff]

theorem below_iff (h : Mirrors w w') (v : Int) : -v < w'.part.low.toInt ↔ w.part.high.toInt < v := by
  rw [h.low, neg_lt_neg_iff]

theorem lt_lowRelease_iff (h : Mirrors w w') (v : Int) :
    -v < lowRelease w'.part ↔ highRelease w.part < v := by
  unfold lowRelease highRelease
  rw [h.low, h.hysteresis]
  omega

/-- NORMAL and the high side: what the watch does on `v`, its mirror image does on `-v`. -/
theorem moveWatch_of_not_low (h : Mirrors w w') (v : Int) (hlimits : w.part.low.toInt < w.part.high.toInt)
    (hstate : w.state = .normal ∨ w.state = .highPending ∨ w.state = .highAlarm) :
    moveWatch w' (-v) = (moveWatch w v).mirror := by
  rcases hstate with hs | hs | hs
  · have hs' : w'.state = .normal := by rw [h.state, hs]; rfl
    have hapart : v < w.part.low.toInt → ¬w.part.high.toInt < v := by omega
    rw [moveWatch_of_normal hs, moveWatch_of_normal hs']
    simp only [h.above_iff, h.below_iff, h.debounce, apply_ite WatchMove.mirror, riseHigh_mirror,
      riseLow_mirror]
    exact ite_ite_comm _ _ _ _ hapart
  · have hs' : w'.state = .lowPending := by rw [h.state, hs]; rfl
    rw [moveWatch_of_highPending hs, moveWatch_of_lowPending hs']
    simp only [h.above_iff, h.below_iff, h.debounce, h.count, apply_ite WatchMove.mirror]
    rfl
  · have hs' : w'.state = .lowAlarm := by rw [h.state, hs]; rfl
    rw [moveWatch_of_highAlarm hs, moveWatch_of_lowAlarm hs']
    simp only [h.above_iff, h.lt_lowRelease_iff, h.debounce, apply_ite WatchMove.mirror]
    rfl

/-- What a watch does on `v`, its mirror image does on `-v`. The low states are the mirror images of the high
ones, so they follow with the two watches exchanged. -/
theorem moveWatch_neg (h : Mirrors w w') (v : Int) (hlimits : w.part.low.toInt < w.part.high.toInt) :
    moveWatch w' (-v) = (moveWatch w v).mirror := by
  have hlimits' : w'.part.low.toInt < w'.part.high.toInt := by rw [h.low, h.high]; omega
  have exchanged (hs : w'.state = .normal ∨ w'.state = .highPending ∨ w'.state = .highAlarm) :
      moveWatch w' (-v) = (moveWatch w v).mirror := by
    have hback := h.symm.moveWatch_of_not_low (-v) hlimits' hs
    rw [neg_neg] at hback
    rw [hback, WatchMove.mirror_mirror]
  have hstate := h.state
  cases hs : w.state with
  | normal => exact h.moveWatch_of_not_low v hlimits (.inl hs)
  | highPending => exact h.moveWatch_of_not_low v hlimits (.inr (.inl hs))
  | highAlarm => exact h.moveWatch_of_not_low v hlimits (.inr (.inr hs))
  | lowPending => rw [hs] at hstate; exact exchanged (.inr (.inl hstate))
  | lowAlarm => rw [hs] at hstate; exact exchanged (.inr (.inr hstate))

end Watch.Mirrors

end Sys2Proof.Machine
end

section
/-! PROOF. The statement about the moves of a watch. -/

namespace Sys2Proof.Proofs

open Sys2Proof.Machine

/-- Settles O42: each line of R103, R104 and R105 is one branch of the evaluation in that state, and the low
side is the mirror image of the high one. -/
theorem watchMoves : Obligations.WatchMoves := by
  intro w v hlimits hhyst _
  dsimp only
  have hapart (hbelow : v < w.part.low.toInt) : ¬w.part.high.toInt < v := by omega
  refine ⟨fun hs => ?_, fun hs _ => ?_, fun hs => ?_, fun w' hhigh hlow hhy hd hc hs => ?_⟩
  · rw [moveWatch_of_normal hs]
    exact ⟨fun ⟨hlo, hhi⟩ => by rw [if_neg hhi.not_gt, if_neg hlo.not_gt],
      fun habove hone => by rw [if_pos habove, riseHigh_of_one hone],
      fun habove hmore => by rw [if_pos habove, riseHigh_of_ne_one hmore],
      fun hbelow hone => by rw [if_neg (hapart hbelow), if_pos hbelow, riseLow_of_one hone],
      fun hbelow hmore => by rw [if_neg (hapart hbelow), if_pos hbelow, riseLow_of_ne_one hmore]⟩
  · rw [moveWatch_of_highPending hs]
    exact ⟨fun habove hless => by rw [if_pos habove, if_pos hless],
      fun habove hfull => by rw [if_pos habove, if_neg hfull.not_lt],
      fun ⟨hlo, hhi⟩ => by rw [if_neg hhi.not_gt, if_neg hlo.not_gt],
      fun hbelow => by rw [if_neg (hapart hbelow), if_pos hbelow]⟩
  · rw [moveWatch_of_highAlarm hs]
    have hends (hbelow : v < w.part.low.toInt) : ¬highRelease w.part < v :=
      (le_highRelease_of_below hhyst hbelow).not_gt
    exact ⟨fun hkeeps => if_pos hkeeps,
      fun hleaves hlo => by rw [if_neg (not_lt.mpr hleaves : ¬highRelease w.part < v), if_neg hlo.not_gt],
      fun hbelow hone => by rw [if_neg (hends hbelow), if_pos hbelow, if_pos hone],
      fun hbelow hmore => by rw [if_neg (hends hbelow), if_pos hbelow, if_neg hmore]⟩
  · have hmirror : Watch.Mirrors w w' := ⟨hhigh, hlow, hhy, hd, hc, hs⟩
    rw [hmirror.moveWatch_neg v hlimits]
    exact ⟨rfl, rfl, rfl, rfl⟩

end Sys2Proof.Proofs
end

section
/-! SUPPORT. One trip line replaced, its pin in TRIP mode: what a release, a trip and each of ARM_TRIP, ACK_TRIP
and DISARM_TRIP leave of it, and the ways out of these commands (R116 to R124). -/

namespace Sys2Proof.Machine

open Sys2Proof.Safety

/-! ### One line replaced (R114, R115) -/

@[simp] theorem withLine_line (l : LineNo) (x : Line) (s : State) : (withLine l x s).line l = x :=
  put_getElem_same _ _ _

@[simp] theorem afterEvents_line (e : List Announced) (l : LineNo) (s : State) :
    (afterEvents e s).line l = s.line l := rfl

theorem withLine_input (l : LineNo) (x : Line) (s : State) :
    (withLine l x s).input (lineInput l) = { s.input (lineInput l) with
      drive := tripLevel (s.input (lineInput l)).polarity (decide (x.state = .tripped)) } :=
  put_getElem_same _ _ _

theorem withLine_mode (l : LineNo) (x : Line) (s : State) :
    ((withLine l x s).input (lineInput l)).mode = (s.input (lineInput l)).mode := by
  rw [withLine_input]

/-- A line replaced twice is the line replaced by the later record. -/
theorem withLine_withLine (l : LineNo) (x y : Line) (s : State) :
    withLine l y (withLine l x s) = withLine l y s := by
  rw [withLine, withLine_input]
  simp only [withLine, put_put]

/-- A line that is not DISARMED has its pin in TRIP mode (R115). -/
theorem trip_of_not_disarmed {s : State} {l : LineNo} (h : TripLaw s) (hs : (s.line l).state ≠ .disarmed) :
    (s.input (lineInput l)).mode = .trip := trip_of_lineHolds h (lineHolds_iff.mpr ⟨l, rfl, hs⟩)

section
variable {n : Port} {tag : Byte} {c : Instr} {block : State → Reply × State} {s : State} {r : Reply}
  {l : LineNo} {x : Line}

/-- A command whose block answers r and replaces one line. -/
theorem hostCommand_setsLine (h : Free n c s) (hc : portCheck n c s = none)
    (hb : ∀ q : PortCtl, block (withPort n q s) = (r, withLine l x (withPort n q s))) :
    hostCommand n tag c block s = .next (answered n tag r.status r.payload (withLine l x s)) :=
  hostCommand_runs (f := withLine l x) h hc hb (fun _ _ => rfl) rfl

/-- A command whose block answers r, replaces one line and raises an event. -/
theorem hostCommand_announcesLine {a : Announced} (h : Free n c s) (hc : portCheck n c s = none)
    (hb : ∀ q : PortCtl, block (withPort n q s) = (r, afterEvents [a] (withLine l x (withPort n q s)))) :
    hostCommand n tag c block s =
      .next (answered n tag r.status r.payload (afterEvents [a] (withLine l x s))) :=
  hostCommand_runs (f := fun s => afterEvents [a] (withLine l x s)) h hc hb
    (fun _ hq => afterEvents_withPort (s := withLine l x s) _ hq) rfl

end

/-! ### Details (R119, R123, Table 10-8) -/

theorem causeDetail_alarm (i : SubId) : causeDetail causeAlarm (idByte i) = BitVec.ofNat 16 i.val := by
  revert i; decide

theorem causeDetail_arm (i : SubId) : causeDetail causeArm (idByte i) = BitVec.ofNat 16 (256 + i.val) := by
  revert i; decide

theorem causeDetail_renewed (i : SubId) :
    causeDetail causeRenewed (idByte i) = BitVec.ofNat 16 (512 + i.val) := by
  revert i; decide

theorem causeDetail_ack (n : Port) : causeDetail causeAck (portByte n) = BitVec.ofNat 16 n.val := by
  revert n; decide

/-! ### Release (R122, R123) -/

/-- A judgement of the release condition, on a line whose pin is in TRIP mode when it is TRIPPED. -/
theorem judgeRelease_eq {l : LineNo} {s : State} (cause low : Byte)
    (hm : (s.line l).state = .tripped → (s.input (lineInput l)).mode = .trip) :
    judgeRelease l cause low s =
      if Releasable (s.alarms l) (s.line l) then
        afterEvents [⟨everyPort, .tripReleased, BitVec.ofNat 8 l.val, causeDetail cause low⟩]
          (withLine l { s.line l with state := .armed, ack := PortSet.empty } s)
      else s := by
  have hholds : releaseHolds l s = true ↔ Releasable (s.alarms l) (s.line l) := releaseHolds_iff l s
  by_cases hr : Releasable (s.alarms l) (s.line l)
  · have htripped : (s.line l).state = .tripped := hr.left
    rw [judgeRelease, if_pos (hholds.mpr hr), if_pos hr, releaseLine_eq, updateLine_trip _ (hm htripped)]
    rfl
  · rw [judgeRelease, if_neg (mt hholds.mp hr), if_neg hr]

/-! ### The ways out of ARM_TRIP (R116, R117) -/

theorem PortSet.empty_add_eq (n : Port) : PortSet.empty.add n = ⟨n = 0, n = 1, n = 2⟩ := by
  simp [PortSet.add_eq, PortSet.empty]

section
variable {n : Port} {line : Byte} {l : LineNo} {s : State}

theorem armTripBlock_badArgument (h : 4 ≤ line.toNat) :
    armTripBlock n line s = (Reply.refuse .badArgument, s) := by
  simp only [armTripBlock, indexOf_of_ge h]

theorem armTripBlock_pinMode (hl : line.toNat = l.val) (hm : (s.input (lineInput l)).mode ≠ .trip) :
    armTripBlock n line s = (Reply.refuse .pinMode, s) := by
  simp only [armTripBlock, indexOf_of_val hl, if_pos hm]

/-- A DISARMED line whose alarm set is empty. -/
theorem armLine_arms (hm : (s.input (lineInput l)).mode = .trip) (hs : (s.line l).state = .disarmed)
    (ha : s.alarms l = []) :
    armLine n l s = withLine l { s.line l with state := .armed, arming := PortSet.empty.add n } s := by
  simp only [armLine, hs, ha, updateLine_trip _ hm]

/-- A DISARMED line with a watch in alarm: i is the lowest id of its alarm set (R107, R119). -/
theorem armLine_trips {i : SubId} {rest : List SubId} (hm : (s.input (lineInput l)).mode = .trip)
    (hs : (s.line l).state = .disarmed) (ha : s.alarms l = i :: rest) :
    armLine n l s =
      afterEvents [⟨everyPort, .tripAsserted, BitVec.ofNat 8 l.val, BitVec.ofNat 16 (256 + i.val)⟩]
        (withLine l ⟨.tripped, PortSet.empty.add n, PortSet.empty,
          saturate Config.tripCountLimit (s.line l).count⟩ s) := by
  simp only [armLine, hs, ha, tripLine_eq, updateLine_trip _ hm, causeDetail_arm]
  rfl

/-- A line that is ARMED or TRIPPED already. -/
theorem armLine_joins (hm : (s.input (lineInput l)).mode = .trip) (hs : (s.line l).state ≠ .disarmed) :
    armLine n l s = withLine l { s.line l with arming := (s.line l).arming.add n } s := by
  rw [← updateLine_trip _ hm]
  cases h : (s.line l).state with
  | disarmed => exact absurd h hs
  | armed => simp only [armLine, h]
  | tripped => simp only [armLine, h]

/-- An ARM_TRIP that passes its checks answers from the line as it leaves it. -/
theorem armTripBlock_ok (hl : line.toNat = l.val) (hm : (s.input (lineInput l)).mode = .trip) :
    armTripBlock n line s =
      (Reply.ok [line, ((armLine n l s).line l).state.value, flagByte (((armLine n l s).line l).ack.has n)],
        armLine n l s) := by
  simp only [armTripBlock, indexOf_of_val hl, if_neg (not_not_intro hm)]

theorem armTripBlock_arms (hl : line.toNat = l.val) (hm : (s.input (lineInput l)).mode = .trip)
    (hs : (s.line l).state = .disarmed) (ha : s.alarms l = []) :
    armTripBlock n line s = (Reply.ok [line, 1, flagByte ((s.line l).ack.has n)],
      withLine l { s.line l with state := .armed, arming := PortSet.empty.add n } s) := by
  rw [armTripBlock_ok hl hm, armLine_arms hm hs ha, withLine_line]
  rfl

theorem armTripBlock_trips {i : SubId} {rest : List SubId} (hl : line.toNat = l.val)
    (hm : (s.input (lineInput l)).mode = .trip) (hs : (s.line l).state = .disarmed)
    (ha : s.alarms l = i :: rest) :
    armTripBlock n line s = (Reply.ok [line, 2, 0],
      afterEvents [⟨everyPort, .tripAsserted, BitVec.ofNat 8 l.val, BitVec.ofNat 16 (256 + i.val)⟩]
        (withLine l ⟨.tripped, PortSet.empty.add n, PortSet.empty,
          saturate Config.tripCountLimit (s.line l).count⟩ s)) := by
  rw [armTripBlock_ok hl hm, armLine_trips hm hs ha, afterEvents_line, withLine_line, PortSet.has_empty]
  rfl

theorem armTripBlock_joins (hl : line.toNat = l.val) (hm : (s.input (lineInput l)).mode = .trip)
    (hs : (s.line l).state ≠ .disarmed) :
    armTripBlock n line s = (Reply.ok [line, (s.line l).state.value, flagByte ((s.line l).ack.has n)],
      withLine l { s.line l with arming := (s.line l).arming.add n } s) := by
  rw [armTripBlock_ok hl hm, armLine_joins hm hs, withLine_line]

end

/-! ### The ways out of ACK_TRIP (R121) -/

/-- The state after an ACK_TRIP of port n on line l that passes its checks. -/
def acknowledged (n : Port) (l : LineNo) (s : State) : State :=
  judgeRelease l causeAck (portByte n) (updateLine l { s.line l with ack := (s.line l).ack.add n } s)

section
variable {n : Port} {line : Byte} {l : LineNo} {s : State}

theorem ackTripBlock_badArgument (h : 4 ≤ line.toNat) :
    ackTripBlock n line s = (Reply.refuse .badArgument, s) := by
  simp only [ackTripBlock, indexOf_of_ge h]

theorem ackTripBlock_notMember (hl : line.toNat = l.val) (hmember : (s.line l).arming.has n = false) :
    ackTripBlock n line s = (Reply.refuse .notMember, s) := by
  simp only [ackTripBlock, indexOf_of_val hl, if_pos hmember]

theorem ackTripBlock_tripState (hl : line.toNat = l.val) (hmember : (s.line l).arming.has n ≠ false)
    (hs : (s.line l).state ≠ .tripped) : ackTripBlock n line s = (Reply.refuse .tripState, s) := by
  simp only [ackTripBlock, indexOf_of_val hl, if_neg hmember, if_pos hs]

/-- An ACK_TRIP that passes its checks answers from the line as it leaves it. -/
theorem ackTripBlock_ok (hl : line.toNat = l.val) (hmember : (s.line l).arming.has n ≠ false)
    (hs : (s.line l).state = .tripped) :
    ackTripBlock n line s =
      (Reply.ok [line, ((acknowledged n l s).line l).state.value], acknowledged n l s) := by
  simp only [ackTripBlock, indexOf_of_val hl, if_neg hmember, if_neg (not_not_intro hs), acknowledged]

/-- An acknowledgement by a member of the arming set, which is therefore not empty (R122, R123). -/
theorem acknowledged_eq (hm : (s.input (lineInput l)).mode = .trip) (hs : (s.line l).state = .tripped)
    (hmember : (s.line l).arming.has n ≠ false) :
    acknowledged n l s =
      if (s.line l).ack.add n = (s.line l).arming ∧ s.alarms l = [] then
        afterEvents [⟨everyPort, .tripReleased, BitVec.ofNat 8 l.val, BitVec.ofNat 16 n.val⟩]
          (withLine l { s.line l with state := .armed, ack := PortSet.empty } s)
      else withLine l { s.line l with ack := (s.line l).ack.add n } s := by
  have hnotEmpty : (s.line l).arming ≠ PortSet.empty := fun hempty =>
    hmember (hempty ▸ PortSet.has_empty n)
  have hreleasable : Releasable (s.alarms l) { s.line l with ack := (s.line l).ack.add n } ↔
      (s.line l).ack.add n = (s.line l).arming ∧ s.alarms l = [] :=
    ⟨fun ⟨_, _, hacked, hquiet⟩ => ⟨hacked, hquiet⟩,
      fun ⟨hacked, hquiet⟩ => ⟨hs, hnotEmpty, hacked, hquiet⟩⟩
  have halarms (x : Line) : (withLine l x s).alarms l = s.alarms l := rfl
  rw [acknowledged, updateLine_trip _ hm, judgeRelease_eq _ _ fun _ => (withLine_mode _ _ _).trans hm]
  simp only [withLine_line, withLine_withLine, halarms, hreleasable, causeDetail_ack]

theorem ackTripBlock_releases (hl : line.toNat = l.val) (hm : (s.input (lineInput l)).mode = .trip)
    (hs : (s.line l).state = .tripped) (hmember : (s.line l).arming.has n ≠ false)
    (hr : (s.line l).ack.add n = (s.line l).arming ∧ s.alarms l = []) :
    ackTripBlock n line s = (Reply.ok [line, 1],
      afterEvents [⟨everyPort, .tripReleased, BitVec.ofNat 8 l.val, BitVec.ofNat 16 n.val⟩]
        (withLine l { s.line l with state := .armed, ack := PortSet.empty } s)) := by
  rw [ackTripBlock_ok hl hmember hs, acknowledged_eq hm hs hmember, if_pos hr, afterEvents_line,
    withLine_line]
  rfl

theorem ackTripBlock_waits (hl : line.toNat = l.val) (hm : (s.input (lineInput l)).mode = .trip)
    (hs : (s.line l).state = .tripped) (hmember : (s.line l).arming.has n ≠ false)
    (hr : ¬ ((s.line l).ack.add n = (s.line l).arming ∧ s.alarms l = [])) :
    ackTripBlock n line s = (Reply.ok [line, 2],
      withLine l { s.line l with ack := (s.line l).ack.add n } s) := by
  rw [ackTripBlock_ok hl hmember hs, acknowledged_eq hm hs hmember, if_neg hr, withLine_line, hs]
  rfl

end

/-! ### The ways out of DISARM_TRIP (R124) -/

section
variable {n : Port} {line : Byte} {l : LineNo} {s : State}

theorem disarmTripBlock_badArgument (h : 4 ≤ line.toNat) :
    disarmTripBlock n line s = (Reply.refuse .badArgument, s) := by
  simp only [disarmTripBlock, indexOf_of_ge h]

theorem disarmTripBlock_notMember (hl : line.toNat = l.val) (hmember : (s.line l).arming.has n = false) :
    disarmTripBlock n line s = (Reply.refuse .notMember, s) := by
  simp only [disarmTripBlock, indexOf_of_val hl, if_pos hmember]

theorem disarmTripBlock_tripState (hl : line.toNat = l.val) (hmember : (s.line l).arming.has n ≠ false)
    (hs : (s.line l).state = .tripped) : disarmTripBlock n line s = (Reply.refuse .tripState, s) := by
  simp only [disarmTripBlock, indexOf_of_val hl, if_neg hmember, if_pos hs]

/-- A DISARM_TRIP that passes its checks answers from the line as it leaves it. -/
theorem disarmTripBlock_ok (hl : line.toNat = l.val) (hmember : (s.line l).arming.has n ≠ false)
    (hs : (s.line l).state ≠ .tripped) :
    disarmTripBlock n line s =
      (Reply.ok [line, ((leaveArming n l s).line l).state.value], leaveArming n l s) := by
  simp only [disarmTripBlock, indexOf_of_val hl, if_neg hmember, if_neg hs]

/-- A line with a member in its arming set is not DISARMED (R114). -/
theorem armed_of_member (h : TripLaw s) (hmember : (s.line l).arming.has n ≠ false)
    (hs : (s.line l).state ≠ .tripped) : (s.line l).state = .armed := by
  obtain ⟨hlines, -⟩ := h
  obtain ⟨-, hdisarmed, -⟩ := hlines l
  cases hstate : (s.line l).state with
  | disarmed => exact absurd (hdisarmed hstate ▸ PortSet.has_empty n) hmember
  | armed => rfl
  | tripped => exact absurd hstate hs

/-- A port that leaves the arming set of an ARMED line leaves the ack set as it was, empty (R114, R124). -/
theorem leaveArming_eq (h : TripLaw s) (hs : (s.line l).state = .armed) :
    leaveArming n l s =
      if (s.line l).arming.drop n = PortSet.empty then
        withLine l { s.line l with state := .disarmed, arming := (s.line l).arming.drop n } s
      else withLine l { s.line l with arming := (s.line l).arming.drop n } s := by
  have hm : (s.input (lineInput l)).mode = .trip := trip_of_not_disarmed h (by simp [hs])
  have hack : (s.line l).ack.drop n = (s.line l).ack := by
    obtain ⟨hlines, -⟩ := h
    obtain ⟨-, -, -, hunacked, -⟩ := hlines l
    rw [hunacked (by simp [hs])]
    fin_cases n <;> rfl
  simp only [leaveArming, updateLine_trip _ hm, hack, PortSet.isEmpty_iff]
  split <;> rfl

theorem disarmTripBlock_disarms (h : TripLaw s) (hl : line.toNat = l.val)
    (hmember : (s.line l).arming.has n ≠ false) (hs : (s.line l).state = .armed)
    (hr : (s.line l).arming.drop n = PortSet.empty) :
    disarmTripBlock n line s = (Reply.ok [line, 0],
      withLine l { s.line l with state := .disarmed, arming := (s.line l).arming.drop n } s) := by
  rw [disarmTripBlock_ok hl hmember (by simp [hs]), leaveArming_eq h hs, if_pos hr, withLine_line]
  rfl

theorem disarmTripBlock_leaves (h : TripLaw s) (hl : line.toNat = l.val)
    (hmember : (s.line l).arming.has n ≠ false) (hs : (s.line l).state = .armed)
    (hr : (s.line l).arming.drop n ≠ PortSet.empty) :
    disarmTripBlock n line s = (Reply.ok [line, 1],
      withLine l { s.line l with arming := (s.line l).arming.drop n } s) := by
  rw [disarmTripBlock_ok hl hmember (by simp [hs]), leaveArming_eq h hs, if_neg hr, withLine_line, hs]
  rfl

end

/-! ### ENTRY reports (R118, R119) -/

section
variable {l : LineNo} {s : State}

theorem entryReport_disarmed (i : SubId) (hs : (s.line l).state = .disarmed) : entryReport l i s = s := by
  simp only [entryReport, hs]

theorem entryReport_armed (i : SubId) (hm : (s.input (lineInput l)).mode = .trip)
    (hs : (s.line l).state = .armed) :
    entryReport l i s =
      afterEvents [⟨everyPort, .tripAsserted, BitVec.ofNat 8 l.val, BitVec.ofNat 16 i.val⟩]
        (withLine l { s.line l with
          state := .tripped, ack := PortSet.empty,
          count := saturate Config.tripCountLimit (s.line l).count } s) := by
  simp only [entryReport, hs, tripLine_eq, updateLine_trip _ hm, causeDetail_alarm]
  rfl

theorem entryReport_tripped (i : SubId) (hm : (s.input (lineInput l)).mode = .trip)
    (hs : (s.line l).state = .tripped) :
    entryReport l i s =
      afterEvents [⟨everyPort, .tripAsserted, BitVec.ofNat 8 l.val, BitVec.ofNat 16 (512 + i.val)⟩]
        (withLine l { s.line l with state := .tripped, ack := PortSet.empty } s) := by
  simp only [entryReport, hs, raise_eq, updateLine_trip _ hm, causeDetail_renewed]
  rfl

end

end Sys2Proof.Machine
end

section
/-! PROOF. The statements about trip lines. -/

namespace Sys2Proof.Proofs

open Sys2Proof.Machine Sys2Proof.Safety

/-- Settles O43: each way out of ARM_TRIP in its order; an accepted one is one `armLine`, by the state of the
line and, while it is DISARMED, by its alarm set. -/
theorem armTripArmsOrTrips : Obligations.ArmTripArmsOrTrips := by
  intro n tag line s hfree hctl
  have hcheck : portCheck n (.armTrip n tag line) s = none := portCheck_control hctl rfl
  dsimp only
  refine ⟨fun hbad => hostCommand_refuses hfree hcheck fun _ => armTripBlock_badArgument hbad,
    fun l hl => ⟨fun hm => hostCommand_refuses hfree hcheck fun q =>
      armTripBlock_pinMode (s := withPort n q s) hl hm, fun hm => ?_⟩⟩
  rw [← PortSet.empty_add_eq, ← PortSet.add_eq]
  have hjoins {st : LineState} (hs : (s.line l).state = st) (hne : st ≠ .disarmed) :
      exec (.armTrip n tag line) s = .next
        (answered n tag .ok [line, st.value, flagByte ((s.line l).ack.has n)]
          (withLine l ⟨st, (s.line l).arming.add n, (s.line l).ack, (s.line l).count⟩ s)) := by
    subst hs
    exact hostCommand_setsLine (r := Reply.ok _) hfree hcheck fun q =>
      armTripBlock_joins (s := withPort n q s) hl hm hne
  cases hs : (s.line l).state with
  | disarmed =>
    cases ha : s.alarms l with
    | nil =>
      exact hostCommand_setsLine (r := Reply.ok _) hfree hcheck fun q =>
        armTripBlock_arms (s := withPort n q s) hl hm hs ha
    | cons i rest =>
      exact hostCommand_announcesLine (r := Reply.ok _) hfree hcheck fun q =>
        armTripBlock_trips (s := withPort n q s) hl hm hs ha
  | armed => exact hjoins hs nofun
  | tripped => exact hjoins hs nofun

/-- Settles O44: each way out of ACK_TRIP in its order; one that passes its checks is one `acknowledged`, and
under `TripLaw` the pin of the TRIPPED line is in TRIP mode. -/
theorem ackTripMayRelease : Obligations.AckTripMayRelease := by
  intro n tag line s hfree hctl hlaw
  have hcheck : portCheck n (.ackTrip n tag line) s = none := portCheck_control hctl rfl
  refine ⟨fun hbad => hostCommand_refuses hfree hcheck fun _ => ackTripBlock_badArgument hbad,
    fun l hl => ?_⟩
  dsimp only
  rw [← PortSet.add_eq]
  split_ifs with hmember hs hr
  · exact hostCommand_refuses hfree hcheck fun q =>
      ackTripBlock_notMember (s := withPort n q s) hl hmember
  · exact hostCommand_refuses hfree hcheck fun q =>
      ackTripBlock_tripState (s := withPort n q s) hl hmember hs
  all_goals
    have htripped : (s.line l).state = .tripped := not_not.mp hs
    have hm : (s.input (lineInput l)).mode = .trip := trip_of_not_disarmed hlaw (by simp [htripped])
  · exact hostCommand_announcesLine (r := Reply.ok _) hfree hcheck fun q =>
      ackTripBlock_releases (s := withPort n q s) hl hm htripped hmember hr
  · exact hostCommand_setsLine (r := Reply.ok _) hfree hcheck fun q =>
      ackTripBlock_waits (s := withPort n q s) hl hm htripped hmember hr

/-- Settles O45: each way out of DISARM_TRIP in its order; one that passes its checks finds an ARMED line, and
is one `leaveArming`. -/
theorem disarmTripLeaves : Obligations.DisarmTripLeaves := by
  intro n tag line s hfree hctl hlaw
  have hcheck : portCheck n (.disarmTrip n tag line) s = none := portCheck_control hctl rfl
  refine ⟨fun hbad => hostCommand_refuses hfree hcheck fun _ => disarmTripBlock_badArgument hbad,
    fun l hl => ?_⟩
  dsimp only
  rw [← PortSet.drop_eq]
  split_ifs with hmember hs hr
  · exact hostCommand_refuses hfree hcheck fun q =>
      disarmTripBlock_notMember (s := withPort n q s) hl hmember
  · exact hostCommand_refuses hfree hcheck fun q =>
      disarmTripBlock_tripState (s := withPort n q s) hl hmember hs
  · exact hostCommand_setsLine (r := Reply.ok _) hfree hcheck fun q =>
      disarmTripBlock_disarms (s := withPort n q s) hlaw hl hmember (armed_of_member hlaw hmember hs) hr
  · exact hostCommand_setsLine (r := Reply.ok _) hfree hcheck fun q =>
      disarmTripBlock_leaves (s := withPort n q s) hlaw hl hmember (armed_of_member hlaw hmember hs) hr

/-- Settles O46: an ENTRY report by the state of its line, an EXIT report by the release condition; under
`TripLaw` the pin of a line that either of them changes is in TRIP mode. -/
theorem reportsToALine : Obligations.ReportsToALine := by
  intro l i s hlaw
  have hmode (hs : (s.line l).state ≠ .disarmed) := trip_of_not_disarmed hlaw hs
  refine ⟨?_, ?_⟩
  · cases hs : (s.line l).state with
    | disarmed => exact entryReport_disarmed i hs
    | armed => exact entryReport_armed i (hmode (by simp [hs])) hs
    | tripped => exact entryReport_tripped i (hmode (by simp [hs])) hs
  · rw [exitReport, judgeRelease_eq _ _ fun hs => hmode (by simp [hs]), causeDetail_exit]
    rfl

end Sys2Proof.Proofs
end

section
/-! SUPPORT. What READ_SAMPLES and READ_EVENTS answer and leave in the queues of their port (R136, R143), and
ATTNn as DLV judges it after them (R144). -/

namespace Sys2Proof.Machine

open Sys2Proof.Safety

/-! ### The queues of one port replaced (R144) -/

/-- On an ATTACHED port ATTNn is asserted while an event entry waits or the sample queue has reached the
watermark (R144). -/
theorem attnCondition_attached {p : PortCtl} (h : p.session = .attached) (q : PortQueues) :
    attnCondition p q = decide (0 < q.events.length ∨ p.watermark ≤ q.samples.length) := by
  have hevents : (!q.events.isEmpty) = decide (0 < q.events.length) := by cases q.events <;> simp
  simp only [attnCondition, h, hevents, beq_self_eq_true, Bool.true_and, Bool.decide_or]

theorem attnCondition_settings {p p' : PortCtl} (h : SameSettings p p') (q : PortQueues) :
    attnCondition p q = attnCondition p' q := by
  simp only [attnCondition, h.session, h.watermark]

theorem judgeAttn_setQueues (n : Port) (q : PortQueues) (s : State) :
    judgeAttn n (s.setQueues n q) = s.setQueues n { q with attn := attnCondition (s.port n) q } := by
  simp [judgeAttn, State.setQueues, State.withDlv, State.queues, State.port]

theorem judgeAttn_setQueues_withPort {n : Port} {p : PortCtl} {s : State} (q : PortQueues)
    (h : SameSettings p (s.port n)) :
    judgeAttn n ((withPort n p s).setQueues n q) = withPort n p (judgeAttn n (s.setQueues n q)) := by
  rw [judgeAttn_setQueues, judgeAttn_setQueues, withPort_port, if_pos rfl, attnCondition_settings h]
  rfl

/-- A command of an ATTACHED port whose block answers r, replaces the port's queues and judges ATTNn. -/
theorem hostCommand_setsQueues {n : Port} {tag : Byte} {c : Instr} {block : State → Reply × State}
    {s : State} {r : Reply} {q : PortQueues} (h : Free n c s) (hatt : Attached n s)
    (hc : portCheck n c s = none)
    (hb : ∀ p : PortCtl, block (withPort n p s) = (r, judgeAttn n ((withPort n p s).setQueues n q))) :
    hostCommand n tag c block s = .next (answered n tag r.status r.payload (s.setQueues n { q with
      attn := decide (0 < q.events.length ∨ (s.port n).watermark ≤ q.samples.length) })) := by
  rw [← attnCondition_attached hatt, ← judgeAttn_setQueues]
  exact hostCommand_runs (f := fun s => judgeAttn n (s.setQueues n q)) h hc hb
    (fun _ hp => judgeAttn_setQueues_withPort q hp) rfl

/-! ### READ_SAMPLES (R136) -/

section
variable {n : Port} {a m : Byte} {s : State} {q : PortQueues}

theorem readSamplesBlock_badAck (h : (s.queues n).sampleUnacked < a.toNat) :
    readSamplesBlock n a m s =
      (⟨.badAck, [byteOf (s.queues n).sampleUnacked, byteOf (s.queues n).samples.length]⟩, s) := if_pos h

/-- An acknowledgement within the unacked count: the head records it covers are gone, and the next min(n, 7)
are returned and stay in the queue. -/
theorem readSamplesBlock_ok (hq : s.queues n = q) (h : ¬q.sampleUnacked < a.toNat) :
    readSamplesBlock n a m s =
      let rest := q.samples.drop a.toNat
      let back := rest.take (min m.toNat 7)
      (Reply.ok ([byteOf rest.length, byteOf back.length] ++ back.flatMap sampleRow),
        judgeAttn n (s.setQueues n { q with samples := rest, sampleUnacked := back.length })) := by
  rw [readSamplesBlock, hq, funext sampleBytes_row]
  exact if_neg h

end

/-! ### READ_EVENTS (R143) -/

theorem carryOver_of_ne {e : EventEntry} (fn : FrameNo) (h : e.code ≠ .eventsLost) :
    carryOver fn e = [] := if_neg fun hlost => h hlost.1

/-- In a queue whose EVENTS_LOST can only be its newest entry, only the newest removed entry leaves something
behind: the others are no EVENTS_LOST. -/
theorem removeEvents_of_lost_newest {q : List EventEntry} (fn : FrameNo) (a : Nat)
    (h : ∀ e ∈ q.dropLast, e.code ≠ .eventsLost) :
    removeEvents fn a q = q.drop a ++ (q.take a).getLast?.elim [] (carryOver fn) := by
  have holder : (q.take a).dropLast.flatMap (carryOver fn) = [] := by
    refine List.flatMap_eq_nil_iff.mpr fun e he => carryOver_of_ne fn (h e ?_)
    rw [List.dropLast_take_eq_take_dropLast] at he
    exact List.mem_of_mem_take he
  rw [removeEvents]
  cases hlast : (q.take a).getLast? with
  | none => rw [List.getLast?_eq_none_iff.mp hlast]; rfl
  | some e =>
    rw [← List.dropLast_append_getLast? e hlast, List.flatMap_append, holder]
    simp

/-- The queues of a port after READ_EVENTS has left the entries `rest` and returned the first k of them. -/
def eventsReturned (rest : List EventEntry) (k : Nat) (q : PortQueues) : PortQueues :=
  { q with events := (rest.take k).map markReported ++ rest.drop k, eventUnacked := (rest.take k).length }

/-- A returned entry stays in the queue. -/
theorem eventsReturned_length (rest : List EventEntry) (k : Nat) (q : PortQueues) :
    (eventsReturned rest k q).events.length = rest.length := by
  rw [eventsReturned, List.length_append, List.length_map, ← List.length_append, List.take_append_drop]

section
variable {n : Port} {a m : Byte} {s : State} {q : PortQueues}

theorem readEventsBlock_badAck (h : (s.queues n).eventUnacked < a.toNat) :
    readEventsBlock n a m s =
      (⟨.badAck, [byteOf (s.queues n).eventUnacked, byteOf (s.queues n).events.length]⟩, s) := if_pos h

/-- An acknowledgement within the unacked count: of the entries left, the first min(n, 15) are returned. -/
theorem readEventsBlock_ok {rest : List EventEntry} (hq : s.queues n = q) (h : ¬q.eventUnacked < a.toNat)
    (hrest : rest = removeEvents s.seq.fn a.toNat q.events) :
    readEventsBlock n a m s =
      let back := rest.take (min m.toNat 15)
      (Reply.ok ([byteOf rest.length, byteOf back.length] ++ back.flatMap eventRow),
        judgeAttn n (s.setQueues n (eventsReturned rest (min m.toNat 15) q))) := by
  rw [readEventsBlock, hq, funext eventBytes_row, ← hrest]
  exact if_neg h

end

end Sys2Proof.Machine
end

section
/-! PROOF. The statements about the reads that acknowledge. -/

namespace Sys2Proof.Proofs

open Sys2Proof.Machine Sys2Proof.Safety

/-- Settles O48: the two ways out of READ_SAMPLES, by the acknowledgement and the unacked count. -/
theorem readSamplesAcknowledges : Obligations.ReadSamplesAcknowledges := by
  intro n tag ack most s hfree hatt
  have hcheck : portCheck n (.readSamples n tag ack most) s = none := portCheck_attached hatt rfl rfl
  dsimp only
  split_ifs with hack
  · exact hostCommand_answers (r := ⟨.badAck, _⟩) hfree hcheck fun p =>
      readSamplesBlock_badAck (s := withPort n p s) hack
  · exact hostCommand_setsQueues hfree hatt hcheck fun p =>
      readSamplesBlock_ok (s := withPort n p s) rfl hack

/-- Settles O49: the two ways out of READ_EVENTS. Under `DeliveryLaw` an EVENTS_LOST is the newest entry, so
only the newest removed entry can leave one, and the entries left are those of `removeEvents`. -/
theorem readEventsAcknowledges : Obligations.ReadEventsAcknowledges := by
  intro n tag ack most s hfree hatt hlaw q carried rest back
  have hcheck : portCheck n (.readEvents n tag ack most) s = none := portCheck_attached hatt rfl rfl
  obtain ⟨-, -, -, -, -, -, -, hnewest, -⟩ := hlaw n
  have hcarried : carried = (q.events.take ack.toNat).getLast?.elim [] (carryOver s.seq.fn) := by
    dsimp only [carried]
    cases (q.events.take ack.toNat).getLast? <;> rfl
  have hrest : rest = removeEvents s.seq.fn ack.toNat q.events := by
    rw [removeEvents_of_lost_newest _ _ hnewest, ← hcarried]
  split_ifs with hack
  · exact hostCommand_answers (r := ⟨.badAck, _⟩) hfree hcheck fun p =>
      readEventsBlock_badAck (s := withPort n p s) hack
  · have hrun := hostCommand_setsQueues (tag := tag) hfree hatt hcheck fun p =>
      readEventsBlock_ok (m := most) (s := withPort n p s) rfl hack hrest
    rw [eventsReturned_length] at hrun
    exact hrun

end Sys2Proof.Proofs
end

section
/-! SUPPORT. The CRC register bit by bit and over bytes with their CRC (R152), what a port controller does with
a transaction that brings a frame (R151, R156), and what SET_PORT replaces (R168). -/

namespace Sys2Proof.Machine

open Sys2Proof.Safety

/-! ### The CRC register (R152) -/

/-- The bit compared with a data bit is the one that leaves the register on the left. -/
theorem crcBit_eq (reg : BitVec 16) (b : Bool) :
    crcBit reg b = if reg.msb = b then reg <<< 1 else (reg <<< 1) ^^^ 0x1021 := by
  simp only [crcBit, BitVec.msb_eq_getLsbD_last, bne_iff_ne, ne_eq, ite_not]

/-- A register that meets its own leading bit is shifted and nothing else. -/
theorem crcBit_msb (reg : BitVec 16) : crcBit reg reg.msb = reg <<< 1 :=
  (crcBit_eq reg reg.msb).trans (if_pos rfl)

/-- The first k bits of a register, most significant first. -/
def leadingBits (reg : BitVec 16) (k : Nat) : List Bool := (List.range k).map reg.getMsbD

theorem leadingBits_succ (reg : BitVec 16) (k : Nat) :
    leadingBits reg (k + 1) = leadingBits reg k ++ [reg.getMsbD k] := by
  simp [leadingBits, List.range_succ]

/-- A register fed with its own leading bits shifts them out one by one. -/
theorem foldl_crcBit_leadingBits (reg : BitVec 16) (k : Nat) :
    (leadingBits reg k).foldl crcBit reg = reg <<< k := by
  induction k with
  | zero => simp [leadingBits]
  | succ k ih =>
    have hmsb : reg.getMsbD k = (reg <<< k).msb := by simp [BitVec.msb]
    rw [leadingBits_succ, List.foldl_append, ih, hmsb, List.foldl_cons, List.foldl_nil, crcBit_msb,
      BitVec.shiftLeft_add]

/-- The two bytes of a field, high byte first, carry its bits most significant first. -/
theorem bitStream_twoBytes (v : BitVec 16) : bitStream (twoBytes v) = leadingBits v 16 := by
  simp [bitStream, twoBytes, bitsOf, leadingBits, List.range_succ, BitVec.getMsbD]

theorem withCrc_eq (l : List Byte) : withCrc l = l ++ twoBytes (crc l) := by
  rw [withCrc, bytesOf_two]

theorem crc_append (l m : List Byte) : crc (l ++ m) = (bitStream m).foldl crcBit (crc l) := by
  rw [crc, bitStream, List.flatMap_append, List.foldl_append]
  rfl

/-- The CRC behind the bytes shifts the register out whole. -/
theorem crc_withCrc (l : List Byte) : crc (withCrc l) = 0 := by
  rw [withCrc_eq, crc_append, bitStream_twoBytes, foldl_crcBit_leadingBits]
  exact BitVec.shiftLeft_eq_zero (Nat.le_refl 16)

/-- The check value over the nine bytes 31H to 39H (R152). -/
theorem crc_check_value :
    crc [0x31, 0x32, 0x33, 0x34, 0x35, 0x36, 0x37, 0x38, 0x39] = 0x29B1 := by decide +kernel

/-! ### A transaction that brings a frame (R151, R156) -/

/-- Outside a reset an event is taken. -/
theorem unlessReset_up {f : State → State} {s : State} (h : s.resetting = none) :
    unlessReset f s = .next (f s) := by
  rw [unlessReset, h]
  rfl

/-- The end of a transaction changes its own port controller alone (R150). -/
theorem closeTransaction_eq (n : Port) (copy : List Byte) (clocks : Nat) (s : State) :
    closeTransaction n copy clocks s = withPort n (closedPort copy clocks (s.port n)) s := rfl

/-- When SSn rises the transaction ends, and the bits it brought are taken (R151). -/
theorem endTransaction_inTransaction {n : Port} {copy : List Byte} {b : Bool} {s : State} (mosi : List Bool)
    (h : InTransaction n copy b s) :
    endTransaction n mosi s = takeBits n b mosi (withPort n (closedPort copy mosi.length (s.port n)) s) := by
  obtain ⟨-, hactive⟩ := h
  rw [endTransaction, hactive, ← closeTransaction_eq]

/-- Bits that spell a well-formed frame are taken as that frame (R151). -/
theorem takeBits_frame {n : Port} {b : Bool} {mosi : List Bool} {f : Frame} {s : State}
    (h : parseFrame (gather mosi) = some f) : takeBits n b mosi s = takeFrame n b f s := by
  unfold takeBits
  cases hbytes : gather mosi with
  | nil => rw [hbytes] at h; cases h
  | cons _ _ => rw [hbytes] at h; simp only [h]

/-- A frame with code 0 and no payload restarts the session timer and does nothing else, whatever the holder was
when SSn fell (R156, R163). -/
theorem takeFrame_fetch {n : Port} {b : Bool} {f : Frame} {s : State} (hcode : f.code = 0)
    (hpayload : f.payload = []) :
    takeFrame n b f s = withPort n (restartedPort (s.port n)) s := by
  have hfetch : f.isFetch = true := by simp [Frame.isFetch, hcode, hpayload]
  rw [takeFrame, if_pos hfetch, restartTimer_eq]

/-! ### The settings of a port replaced (R168) -/

/-- The checked argument bytes of SET_PORT in range (R168). -/
def SettingsInRange (policy watermark mask : Byte) : Prop :=
  policy.toNat < 2 ∧ 1 ≤ watermark.toNat ∧ watermark.toNat ≤ 64 ∧ mask.toNat < 64

/-- The port controller p with the four settings of these bytes, and its session timer restarted or stopped
(R168). -/
def settingsReplaced (policy watermark mask timeout : Byte) (p : PortCtl) : PortCtl :=
  { p with
    policy := if policy = 0 then .keepOldest else .keepNewest
    watermark := watermark.toNat
    mask := ⟨mask.getLsbD 0, mask.getLsbD 1, mask.getLsbD 2, mask.getLsbD 3, mask.getLsbD 4, mask.getLsbD 5⟩
    timeout := timeout
    timer := if timeout = 0 then none else some timeout.toNat }

theorem policyOf_eq_some {b : Byte} {policy : Policy} :
    policyOf b = some policy ↔ b.toNat < 2 ∧ (if b = 0 then .keepOldest else .keepNewest) = policy := by
  revert b
  cases policy <;> decide

theorem maskOf_eq_some {b : Byte} {m : ClassMask} :
    maskOf b = some m ↔ b.toNat < 64 ∧
      ⟨b.getLsbD 0, b.getLsbD 1, b.getLsbD 2, b.getLsbD 3, b.getLsbD 4, b.getLsbD 5⟩ = m := by
  simp only [maskOf, Option.ite_none_right_eq_some, Option.some.injEq]

section
variable {n : Port} {tag policy watermark mask timeout : Byte} {s : State}

/-- A block that gets past its argument bytes has them in range. -/
theorem setPortBlock_badArgument (h : ¬ SettingsInRange policy watermark mask) :
    setPortBlock n policy watermark mask timeout s = (Reply.refuse .badArgument, s) := by
  unfold setPortBlock
  split
  next hpol hw hm =>
    obtain ⟨hpol, -⟩ := policyOf_eq_some.mp hpol
    obtain ⟨⟨hlow, hhigh⟩, -⟩ := rangeOf_eq_some.mp hw
    obtain ⟨hm, -⟩ := maskOf_eq_some.mp hm
    exact absurd ⟨hpol, hlow, hhigh, hm⟩ h
  next => rfl

/-- With the arguments in range the settings are replaced and ATTNn is judged by them (R168). -/
theorem setPortBlock_ok (h : SettingsInRange policy watermark mask) :
    setPortBlock n policy watermark mask timeout s =
      (Reply.ok [policy, watermark, mask, timeout],
        judgeAttn n (withPort n (settingsReplaced policy watermark mask timeout (s.port n)) s)) := by
  obtain ⟨hpol, hlow, hhigh, hm⟩ := h
  simp only [setPortBlock, policyOf_eq_some.mpr ⟨hpol, rfl⟩, rangeOf_eq_some.mpr ⟨⟨hlow, hhigh⟩, rfl⟩,
    maskOf_eq_some.mpr ⟨hm, rfl⟩]
  rfl

/-- On an ATTACHED port it is the same to replace the settings after the command has been opened and to answer
then, or to answer the port with its new settings: the timer ends as the new timeout starts it. -/
theorem settingsReplaced_openedPort_answered (c : Instr) (st : Status) (l : List Byte) {p : PortCtl}
    (h : p.session = .attached) :
    { settingsReplaced policy watermark mask timeout (openedPort tag c p) with
        holder := .ready ⟨st, tag, l⟩, inExec := none } =
      answeredPort (settingsReplaced policy watermark mask timeout p) tag st l := by
  by_cases hp : p.holder = .pending <;>
    simp [settingsReplaced, openedPort, answeredPort, restartedPort, timerFor, hp, h]

/-- The state s with the settings of port n replaced and its ATTNn judged by them: asserted while an event entry
waits or the sample queue has reached the new watermark (R144, R168). -/
def portSet (n : Port) (policy watermark mask timeout : Byte) (s : State) : State :=
  (withPort n (settingsReplaced policy watermark mask timeout (s.port n)) s).setQueues n { s.queues n with
    attn := decide (0 < (s.queues n).events.length ∨ watermark.toNat ≤ (s.queues n).samples.length) }

/-- DLV judges ATTNn of an ATTACHED port by its new settings, whatever else its controller holds by then. -/
theorem judgeAttn_settingsReplaced {q : PortCtl} (h : q.session = .attached) :
    judgeAttn n (withPort n (settingsReplaced policy watermark mask timeout q) s) =
      withPort n (settingsReplaced policy watermark mask timeout q)
        (portSet n policy watermark mask timeout s) := by
  have hset : (settingsReplaced policy watermark mask timeout q).session = .attached := h
  rw [judgeAttn_eq, withPort_port, if_pos rfl, attnCondition_attached hset]
  simp only [portSet, withPort, State.setQueues, State.withDlv, put_put]
  rfl

/-- SET_PORT in range on an ATTACHED port is one `portSet`, answered with the settings as they now stand
(R168). -/
theorem execSetPort_ok (hfree : Free n (.setPort n tag policy watermark mask timeout) s)
    (hatt : Attached n s) (h : SettingsInRange policy watermark mask) :
    execSetPort n tag policy watermark mask timeout s =
      .next (answered n tag .ok [policy, watermark, mask, timeout]
        (portSet n policy watermark mask timeout s)) := by
  have hcheck : portCheck n (.setPort n tag policy watermark mask timeout) s = none :=
    portCheck_attached hatt rfl rfl
  have hopened := (openedPort_settings tag (.setPort n tag policy watermark mask timeout) (s.port n)).session
  have hport : (portSet n policy watermark mask timeout s).port n =
      settingsReplaced policy watermark mask timeout (s.port n) := put_getElem_same ..
  rw [execSetPort, hostCommand_taken hfree, portCheck_opened, hcheck, opened_eq]
  simp only [setPortBlock_ok h, withPort_port, if_true, withPort_withPort,
    judgeAttn_settingsReplaced (hopened.trans hatt), respond_eq, answered, hport]
  rw [← settingsReplaced_openedPort_answered (.setPort n tag policy watermark mask timeout) .ok _ hatt]
  rfl

end

end Sys2Proof.Machine
end

section
/-! PROOF. The statements about the CRC, FETCH and SET_PORT. -/

namespace Sys2Proof.Proofs

open Sys2Proof.Machine Sys2Proof.Safety

/-- Settles O6: the CRC of bytes with their CRC is 0 because the register, fed with its own bits, only
shifts. -/
theorem crcRegister : Obligations.CrcRegister :=
  ⟨crc_check_value, rfl, crcBit_eq, fun l b => crc_append l [b], withCrc_eq, crc_withCrc⟩

/-- Settles O9: a FETCH restarts the session timer before the holder state is looked at, and ends there. -/
theorem fetchKeepsTheHolder : Obligations.FetchKeepsTheHolder := by
  constructor
  · intro n mosi copy b f s hin hparse hcode hpayload
    have hend : endTransaction n mosi s =
        withPort n (restartedPort (closedPort copy mosi.length (s.port n))) s := by
      rw [endTransaction_inTransaction mosi hin, takeBits_frame hparse, takeFrame_fetch hcode hpayload,
        withPort_port, if_pos rfl, withPort_withPort]
    exact congrArg Host.Outcome.next hend
  · intro n tag s hup
    have htaken : unlessReset (takeFetch n) s = .next (restartTimer n s) := unlessReset_up hup
    rw [restartTimer_eq] at htaken
    exact htaken

/-- Settles O14: the two ways out of SET_PORT; one in range is one `portSet`. -/
theorem setPortReplacesSettings : Obligations.SetPortReplacesSettings := by
  intro n tag policy watermark mask timeout s hfree hatt
  split
  next hin => exact ⟨_, execSetPort_ok hfree hatt hin, rfl, rfl⟩
  next hout =>
    have hcheck : portCheck n (.setPort n tag policy watermark mask timeout) s = none :=
      portCheck_attached hatt rfl rfl
    exact hostCommand_refuses hfree hcheck fun _ => setPortBlock_badArgument hout

end Sys2Proof.Proofs
end

section
/-! SUPPORT. The elementary changes of the part's state, each under the condition with which the machine makes
it. Every command and event is a chain of them, and every law of the part is kept by each of them. -/

namespace Sys2Proof.Machine

open Sys2Proof.Safety

/-! ### The conditions of a change -/

/-- Record x has the state, the parameter sets and the generation of record r. -/
structure SameClaims (r x : SubRecord) : Prop where
  state : x.state = r.state
  current : x.current = r.current
  staged : x.staged = r.staged
  generation : x.generation = r.generation

/-- Record r may become x with another owner, reader set, persist flag or sequence: a new owner is an ATTACHED
CONTROL port, an orphan STAGED or ACTIVE persists, and a new reader is ATTACHED (R2). -/
structure RecordChange (s : State) (r x : SubRecord) : Prop extends SameClaims r x where
  owner : (x.owner = r.owner ∧ x.persist = r.persist) ∨ (∃ n, x.owner = some n ∧ Control n s) ∨
    (x.owner = none ∧ (Live x → x.persist = true))
  readers : ∀ n, x.readers.has n = true → r.readers.has n = true ∨ Attached n s

/-- The law of one trip line whose pin has this mode (R114, R115, R119). -/
def LineLaw (x : Line) (m : InputMode) : Prop :=
  (x.arming = ⟨false, false, false⟩ → x.state ≠ .armed) ∧
  (x.state = .disarmed → x.arming = ⟨false, false, false⟩) ∧
  Within x.ack x.arming ∧
  (x.state ≠ .tripped → x.ack = ⟨false, false, false⟩) ∧
  (x.state ≠ .disarmed → m = .trip) ∧
  x.count ≤ 65535

/-- Line l may become x: its law is kept, it is armed only with an empty alarm set, and a new member of the arming
set is an ATTACHED CONTROL port. -/
structure LineChange (s : State) (l : LineNo) (x : Line) : Prop where
  law : LineLaw (s.line l) (s.input (lineInput l)).mode → LineLaw x (s.input (lineInput l)).mode
  armed : x.state = .armed → (s.line l).state = .armed ∨ s.alarms l = []
  arming : ∀ n, x.arming.has n = true → (s.line l).arming.has n = true ∨ Control n s

/-- The law of the queues of one port (R130, R142, R144). -/
def QueueLaw (p : PortCtl) (q : PortQueues) : Prop :=
  q.samples.length ≤ 64 ∧ q.sampleUnacked ≤ 7 ∧ q.sampleUnacked ≤ q.samples.length ∧ q.lost ≤ 255 ∧
  q.events.length ≤ 16 ∧ q.eventUnacked ≤ 15 ∧ q.eventUnacked ≤ q.events.length ∧
  (∀ e ∈ q.events.dropLast, e.code ≠ .eventsLost) ∧
  (q.events.length = 16 → ∃ e, q.events.getLast? = some e ∧ e.code = .eventsLost) ∧
  (p.session = .detached → q = {}) ∧
  (q.attn = true ↔ p.session = .attached ∧ (0 < q.events.length ∨ p.watermark ≤ q.samples.length))

/-- The law of one window, but for its record (R81). -/
def PositionLaw (w : Window) : Prop :=
  w.position < w.average.count ∧ w.position = w.folded + w.misses ∧ w.sum ≤ 4095 * w.folded

/-- A window may become w' while its record stays. -/
structure WindowChange (w w' : Window) : Prop where
  generation : w'.generation = w.generation
  average : w'.average = w.average
  profile : w'.profile = w.profile
  position : PositionLaw w → PositionLaw w'

/-- Watch w of a record may become w': it joins the alarm set of no ARMED line. -/
structure WatchChange (s : State) (w w' : Watch) : Prop where
  part : w'.part = w.part
  generation : w'.generation = w.generation
  frozen : w'.frozen = w.frozen
  alarm : ∀ l, inAlarmSet (some w') l = true → inAlarmSet (some w) l = true ∨ (s.line l).state ≠ .armed

/-- The law of votes and sequencer states, on SEQ alone (R28, R30, R34, R35). -/
def VoteSeq (q : Seq) : Prop :=
  (q.votes = ⟨false, false, false⟩ ↔ q.state = .stopped ∨ q.state = .halting) ∧
  (q.state = .halting → q.haltCause ≠ none) ∧
  (q.state = .stopped → q.frameTimer = none ∧ q.syncTimer = none ∧ q.list = [])

/-- The law of the slots and the list of a frame, on SEQ alone (R37, R40, R41). -/
def FrameSeq (q : Seq) : Prop :=
  (q.state = .running ∨ q.state = .halting) →
    q.slot ≤ q.slots ∧ (∀ x ∈ q.list, 1 ≤ x.slot ∧ x.slot ≤ q.slots) ∧
    (q.list.map ListEntry.slot).Nodup ∧ (q.list.map ListEntry.input).Nodup

/-- The law of the converter and the routing (R41, R60, R62). -/
def PowerLaw (c : Conv) (routed : Option InputNo) : Prop :=
  (c.power = .busy ↔ c.conversion ≠ none) ∧ (c.power = .warming ↔ c.warmUp ≠ none) ∧
  routed = c.conversion.map Conversion.input

/-- SEQ may become q with the spot queue left. -/
structure SeqChange (s : State) (q : Seq) : Prop where
  spots : q.spots = s.seq.spots
  slots : q.slots = s.seq.slots ∨ planFits q.slots s.subt.plan = true
  voters : ∀ n, q.votes.has n = true → s.seq.votes.has n = true ∨ Control n s
  votes : VoteSeq s.seq → VoteSeq q
  frame : CapacityLaw s → FrameSeq s.seq → FrameSeq q
  stopped : q.state = .stopped → s.seq.state = .stopped ∨ ∀ p, (s.profile p).staged = none

/-- Profile p may become x. -/
structure ProfileChange (s : State) (p : ProfileNo) (x : Profile) : Prop where
  zero : p = 0 → s.profile p = {} → x = {}
  staged : ∀ v, x.staged = some v → (s.profile p).staged = some v ∨ Control v.port s
  stopped : s.seq.state = .stopped → (s.profile p).staged = none → x.staged = none

/-- Port, tag and input of a spot entry. -/
def SpotEntry.key (e : SpotEntry) : Port × Byte × InputNo := (e.port, e.tag, e.input)

/-- The spot queue may become l with the entries `gone` taken out. -/
structure SpotsChange (q l gone : List SpotEntry) : Prop where
  sublist : (l.map SpotEntry.key).Sublist (q.map SpotEntry.key)
  inputs : ((l ++ gone).map SpotEntry.input).Perm (q.map SpotEntry.input)

/-- The state s with spot queue l, the use counts of the inputs of `gone` falling, and nothing else changed. -/
def spotsLeft (l gone : List SpotEntry) (s : State) : State :=
  { s with
    seq := { s.seq with spots := l }
    isel := { s.isel with inputs := tabulate fun k => { s.input k with
      useCount := (s.input k).useCount - (gone.filter fun e => decide (e.input = k)).length } } }

/-- Entry e may be placed at the tail of the spot queue (R66, R67). -/
structure SpotJoins (s : State) (e : SpotEntry) : Prop where
  room : s.seq.spots.length < 8
  share : (s.seq.spots.filter fun x => x.port == e.port).length < 4
  new : (e.port, e.tag) ∉ s.seq.spots.map fun x => (x.port, x.tag)
  mode : (s.input e.input).mode = .analog
  attached : Attached e.port s

/-- Parameter set p may be staged in record i, which becomes x: by CREATE on a FREE record or by MODIFY (R8 to
R11). -/
structure ClaimChange (s : State) (i : SubId) (x : SubRecord) (p : Params) : Prop where
  staged : x.staged = some p
  state : ((s.record i).state = .free ∧ x.state = .staged) ∨
    (Live (s.record i) ∧ x.state = (s.record i).state ∧ x.current = (s.record i).current ∧
      x.generation = (s.record i).generation)
  mode : (s.input p.input).mode = .analog
  admitted : Admitted s (s.record i).reserved (some p)
  owner : ∃ n, x.owner = some n ∧ Control n s
  readers : ∀ n, x.readers.has n = true → (s.record i).readers.has n = true ∨ Attached n s

/-- Two controllers of one port that differ in what taking a frame or a command changes alone: timer, holder,
pending tag, overrun flag and command in execution. -/
structure SamePort (p q : PortCtl) : Prop extends SameSettings p q where
  label : p.label = q.label
  timeout : p.timeout = q.timeout
  cause : p.cause = q.cause
  transaction : p.transaction = q.transaction
  miso : p.miso = q.miso
  misoCarried : p.misoCarried = q.misoCarried

/-! ### The changes -/

/-- The state s with the STAGED record i activated with p, its window and its watch started (R20, R82, R110). -/
def recordActivated (i : SubId) (p : Params) (s : State) : State :=
  updateWatch i (p.watch.map (startWatch 0))
    ((updateRecord i { s.record i with state := .active, current := some p, staged := none, generation := 0 }
      s).setWindow i (some (startWindow 0 p)))

/-- The watch of an ACTIVE record that takes the staged change p (R111). -/
def retakenWatch (r : SubRecord) (w : Option Watch) (p : Params) : Option Watch :=
  if watchPartOf r.current = p.watch then w.map fun v => { v with generation := r.generation + 1 }
  else p.watch.map (startWatch (r.generation + 1))

/-- The state s with the watch of record i, whose watch part was `old`, kept or started for the part `new` (R111). -/
def restartWatch (i : SubId) (old new : Option WatchPart) (gen : BitVec 8) (s : State) : State :=
  if old = new then
    match s.watch i with
    | none => s
    | some w => updateWatch i (some { w with generation := gen }) s
  else updateWatch i (new.map (startWatch gen)) s

/-- The state s with the ACTIVE record i changed to p and its window started anew (R20, R82). -/
def windowRetaken (i : SubId) (p : Params) (s : State) : State :=
  (updateRecord i { s.record i with
    current := some p, staged := none, generation := (s.record i).generation + 1 } s).setWindow i
    (some (startWindow ((s.record i).generation + 1) p))

/-- The state s with the ACTIVE record i changed to p, its window and its watch following, less the event and the
report of the watch (R20, R82, R111). -/
def recordRetaken (i : SubId) (p : Params) (s : State) : State :=
  { windowRetaken i p s with wtu := (restartWatch i (watchPartOf (s.record i).current) p.watch
      ((s.record i).generation + 1) (windowRetaken i p s)).wtu }

theorem restartWatch_eq (i : SubId) (old new : Option WatchPart) (gen : BitVec 8) (s : State) :
    restartWatch i old new gen s = { s with wtu := (restartWatch i old new gen s).wtu } := by
  rw [restartWatch]
  split
  · split <;> rfl
  · rfl

theorem recordRetaken_eq (i : SubId) (p : Params) (s : State) :
    recordRetaken i p s = restartWatch i (watchPartOf (s.record i).current) p.watch
      ((s.record i).generation + 1) (windowRetaken i p s) :=
  (restartWatch_eq _ _ _ _ _).symm

/-- The state s with the ACTIVE record i CLOSING, its window dropped and its watch frozen (R13, R82, R112). -/
def recordShut (i : SubId) (s : State) : State :=
  { recordClosed i s with wtu := (freezeWatch i (recordClosed i s)).wtu }

theorem closeActive_shut (i : SubId) (s : State) : closeActive i s = recordShut i s := by
  rw [closeActive_eq, freezeWatch_eq]
  rfl

/-- One elementary change. -/
inductive Change : State → State → Prop
  /-- The queues of an ATTACHED port. -/
  | queues {s : State} {n : Port} {q : PortQueues} (hatt : Attached n s)
      (h : QueueLaw (s.port n) (s.queues n) → QueueLaw (s.port n) q) : Change s (s.setQueues n q)
  /-- An entry of the latest table. -/
  | latest {s : State} (i : SubId) (x : Option SampleRecord) : Change s (s.setLatest i x)
  /-- A trip line with its pin. -/
  | line {s : State} {l : LineNo} {x : Line} (h : LineChange s l x) : Change s (updateLine l x s)
  /-- Mode, polarity and pin of an input that is not in use. -/
  | input {s : State} {k : InputNo} {x : InputRecord} (hcount : x.useCount = 0)
      (hunused : (s.input k).useCount = 0) (htrip : TripLaw s → TripLaw (s.setInput k x)) :
      Change s (s.setInput k x)
  /-- A window, its record staying. -/
  | window {s : State} {i : SubId} {w w' : Window} (hw : s.window i = some w) (h : WindowChange w w') :
      Change s (s.setWindow i (some w'))
  /-- A watch, its record staying. -/
  | watch {s : State} {i : SubId} {w w' : Watch} (hw : s.watch i = some w) (h : WatchChange s w w') :
      Change s (updateWatch i (some w') s)
  /-- Owners, readers, persist flags and sequences. -/
  | records {s : State} {rs : Vector SubRecord 32} (h : ∀ i : SubId, RecordChange s (s.record i) rs[i]) :
      Change s (s.withSubt { s.subt with records := rs })
  /-- A claim by CREATE or MODIFY. -/
  | claim {s : State} {i : SubId} {x : SubRecord} {p : Params} (h : ClaimChange s i x p) :
      Change s (updateRecord i x s)
  /-- A record that becomes FREE with its window, watch and latest table entry. -/
  | free {s : State} (i : SubId) : Change s (recordDropped i s)
  /-- An ACTIVE record that becomes CLOSING. -/
  | close {s : State} {i : SubId} (h : (s.record i).state = .active) : Change s (recordShut i s)
  /-- A STAGED record that becomes ACTIVE. -/
  | activate {s : State} {i : SubId} {p : Params} (h : (s.record i).state = .staged)
      (hp : (s.record i).staged = some p) : Change s (recordActivated i p s)
  /-- An ACTIVE record that takes its staged change. -/
  | retake {s : State} {i : SubId} {p : Params} (h : (s.record i).state = .active)
      (hp : (s.record i).staged = some p) : Change s (recordRetaken i p s)
  /-- The profiles. -/
  | profiles {s : State} {ps : Vector Profile 8} (h : ∀ p : ProfileNo, ProfileChange s p ps[p]) :
      Change s (s.withAsu { s.asu with profiles := ps })
  /-- SEQ, the spot queue staying. -/
  | seq {s : State} {q : Seq} (h : SeqChange s q) : Change s (s.withSeq q)
  /-- The spot queue, with entries that leave. -/
  | spots {s : State} {l gone : List SpotEntry} (h : SpotsChange s.seq.spots l gone) :
      Change s (spotsLeft l gone s)
  /-- An entry that joins the spot queue. -/
  | join {s : State} {e : SpotEntry} (h : SpotJoins s e) : Change s (spotQueued e s)
  /-- CONV, the routing, the reference flag and the level at REFIN. -/
  | converter {s : State} (c : Conv) (routed : Option InputNo) (flag : RefFlag) (refin : RefLevel)
      (h : PowerLaw s.conv s.isel.routed → PowerLaw c routed) :
      Change s ((s.withConv c).withIsel { s.isel with routed := routed, refOk := flag, refin := refin })
  /-- A port controller that takes a frame or a command. -/
  | port {s : State} {n : Port} {p : PortCtl} (h : SamePort p (s.port n)) : Change s (withPort n p s)
  /-- The free value. -/
  | useFree (s : State) : Change s s.useFree

/-- A chain of changes. -/
abbrev Changes : State → State → Prop := Relation.ReflTransGen Change

/-- What every change keeps, a chain of changes keeps. -/
theorem Changes.keep {P : State → Prop} (h : ∀ {s t}, Change s t → P s → P t) {s t : State}
    (hst : Changes s t) (hs : P s) : P t := by
  induction hst with
  | refl => exact hs
  | tail _ hbc ih => exact h hbc ih

/-- A fold of an operation that is a chain of changes is a chain of changes. -/
theorem Changes.foldl {α : Type} {f : State → α → State} (h : ∀ s a, Changes s (f s a)) (l : List α)
    (s : State) : Changes s (l.foldl f s) := by
  induction l generalizing s with
  | nil => exact .refl
  | cons a l ih => exact (h s a).trans (ih _)

theorem SamePort.refl (p : PortCtl) : SamePort p p := ⟨⟨rfl, rfl, rfl, rfl, rfl⟩, rfl, rfl, rfl, rfl, rfl, rfl⟩

end Sys2Proof.Machine
end

section
/-! SUPPORT. The laws of the plan table, of the use counts and of the spot queue are kept by every change. -/

namespace Sys2Proof.Machine

open Sys2Proof.Safety

/-! ### Counting ids -/

/-- One id counted otherwise changes the count by what it counts. -/
theorem countIds_replace {f g : SubId → Bool} (i : SubId) (h : ∀ j, j ≠ i → g j = f j) :
    countIds g + (f i).toNat = countIds f + (g i).toNat := by
  have key (l : List SubId) (hl : l.Nodup) :
      (l.filter g).length + (if i ∈ l then (f i).toNat else 0) =
        (l.filter f).length + (if i ∈ l then (g i).toNat else 0) := by
    induction l with
    | nil => simp
    | cons j l ih =>
      obtain ⟨hj, hnd⟩ := List.nodup_cons.mp hl
      have ih := ih hnd
      by_cases hji : j = i
      · subst hji
        simp only [hj, if_false, Nat.add_zero] at ih
        cases hf : f j <;> cases hg : g j <;> simp [hf, hg, ih]
      · have hmem : i ∈ j :: l ↔ i ∈ l := by simp [Ne.symm hji]
        have hfg := h j hji
        cases hf : f j <;> simp only [List.filter_cons, hfg, hf, hmem, if_true, if_false,
          List.length_cons, Bool.false_eq_true] <;> omega
  simpa [countIds] using key (List.finRange 32) (List.nodup_finRange 32)

theorem claimAt_le_one (p : Option Params) (r : Residue) (k : InputNo) : claimAt p r k ≤ 1 := by
  cases p with
  | none => exact Nat.zero_le _
  | some p => rw [claimAt]; split <;> decide

theorem toNat_claimAt (p : Option Params) (r : Residue) (k : InputNo) :
    (decide (claimAt p r k = 1)).toNat = claimAt p r k := by
  have h := claimAt_le_one p r k
  interval_cases claimAt p r k <;> rfl

/-! ### The plan table (R5, R6) -/

/-- One reservation replaced, with its claim moved in the plan table, keeps the law. -/
theorem planLaw_replace {s t : State} (i : SubId)
    (hrec : ∀ j, j ≠ i → (t.record j).reserved = (s.record j).reserved)
    (hplan : ∀ (r : Residue) (k : InputNo), t.subt.plan[r][k] + claimAt (s.record i).reserved r k =
      s.subt.plan[r][k] + claimAt (t.record i).reserved r k) (h : PlanLaw s) : PlanLaw t := by
  intro r k
  have hcount := countIds_replace (f := fun j => decide (claimAt (s.record j).reserved r k = 1))
    (g := fun j => decide (claimAt (t.record j).reserved r k = 1)) i fun j hj => by simp only [hrec j hj]
  simp only [toNat_claimAt] at hcount
  have hmove := hplan r k
  have hold := h r k
  omega

theorem updateRecord_planLaw {s : State} (i : SubId) (x : SubRecord) (h : PlanLaw s) :
    PlanLaw (updateRecord i x s) := by
  refine planLaw_replace i (fun j hj => ?_) (fun r k => ?_) h
  · rw [updateRecord_record, if_neg hj]
  · have hle := claimAt_le_plan h i r k
    rw [updateRecord_plan, updateRecord_record, if_pos rfl]
    by_cases hsame : (s.record i).reserved = x.reserved
    · rw [if_pos hsame, hsame]
    · rw [if_neg hsame, trial]
      omega

theorem recordMoved_planLaw {s : State} {i : SubId} {x : SubRecord} (hx : x.reserved = none) (h : PlanLaw s) :
    PlanLaw (recordMoved i x s) :=
  updateRecord_unreserved (i := i) (s := s) hx ▸ updateRecord_planLaw i x h

theorem SameClaims.reserved {r x : SubRecord} (h : SameClaims r x) : x.reserved = r.reserved := by
  simp only [SubRecord.reserved, h.state, h.staged, h.current]

theorem SameClaims.names {r x : SubRecord} (h : SameClaims r x) : x.names = r.names := by
  funext k
  simp only [SubRecord.names, h.state, h.staged, h.current]

theorem planLaw_kept {s t : State} (h : Change s t) (hs : PlanLaw s) : PlanLaw t := by
  cases h with
  | records h =>
    intro r k
    refine (hs r k).trans ?_
    exact congrArg countIds (funext fun i => by rw [← (h i).toSameClaims.reserved]; rfl)
  | claim h => exact updateRecord_planLaw _ _ hs
  | free i => exact recordMoved_planLaw (x := {}) rfl hs
  | close h => exact recordMoved_planLaw rfl hs
  | activate h hp => exact updateRecord_planLaw _ _ hs
  | retake h hp => exact updateRecord_planLaw _ _ hs
  | _ => exact hs

theorem inputsDemanded_mono {d e : InputNo → Nat} (h : ∀ k, d k ≤ e k) : inputsDemanded d ≤ inputsDemanded e := by
  refine (List.monotone_filter_right _ fun k hk => ?_).length_le
  have := h k
  simp only [decide_eq_true_eq] at hk ⊢
  omega

/-- A plan table with no more demand and the same number of slots keeps the law. -/
theorem capacityLaw_mono {s t : State} (hslots : t.seq.slots = s.seq.slots)
    (hplan : ∀ (r : Residue) (k : InputNo), t.subt.plan[r][k] ≤ s.subt.plan[r][k]) (h : CapacityLaw s) :
    CapacityLaw t :=
  fun r => hslots ▸ (inputsDemanded_mono (hplan r)).trans (h r)

theorem recordMoved_plan_le (i : SubId) {x : SubRecord} (s : State) (hx : x.reserved = none) (r : Residue)
    (k : InputNo) : (recordMoved i x s).subt.plan[r][k] ≤ s.subt.plan[r][k] := by
  rw [recordMoved_planMoves i x s r k, hx, trial, claimAt]
  omega

theorem updateRecord_plan_same {i : SubId} {x : SubRecord} {s : State}
    (h : (s.record i).reserved = x.reserved) : (updateRecord i x s).subt.plan = s.subt.plan := if_pos h

theorem reserved_staged {r : SubRecord} {p : Params} (h : Live r) (hp : r.staged = some p) :
    r.reserved = some p := by
  rcases h with h | h <;> simp [SubRecord.reserved, h, hp]

theorem capacityLaw_kept {s t : State} (h : Change s t) (hs : CapacityLaw s) : CapacityLaw t := by
  cases h with
  | @claim i x p h =>
    have hx : x.reserved = some p := by
      obtain ⟨hst, hstate, -⟩ := h
      rcases hstate with ⟨-, hx⟩ | ⟨hlive, hx, -⟩
      · exact reserved_staged (.inl hx) hst
      · exact reserved_staged (hlive.imp (hx.trans ·) (hx.trans ·)) hst
    intro r
    by_cases hsame : (s.record i).reserved = x.reserved
    · exact (updateRecord_plan_same hsame) ▸ hs r
    · have hplan (k : InputNo) : (updateRecord i x s).subt.plan[r][k] =
          trial s (s.record i).reserved (some p) r k := by
        rw [updateRecord_plan, if_neg hsame, hx]
      simp only [hplan]
      exact h.admitted r
  | free i => exact capacityLaw_mono (s := s) rfl (recordMoved_plan_le i (x := {}) s rfl) hs
  | @close i h =>
    exact capacityLaw_mono (s := s) rfl (recordMoved_plan_le i
      (x := { s.record i with state := .closing, staged := none }) s rfl) hs
  | @activate i p h hp =>
    have hsame := updateRecord_plan_same (i := i) (s := s) (x := { s.record i with
      state := .active, current := some p, staged := none, generation := 0 }) (reserved_staged (.inl h) hp)
    exact capacityLaw_mono (s := s) rfl (fun r k => le_of_eq (congrArg (·[r][k]) hsame)) hs
  | @retake i p h hp =>
    have hsame := updateRecord_plan_same (i := i) (s := s) (x := { s.record i with
      current := some p, staged := none, generation := (s.record i).generation + 1 })
      ((reserved_staged (.inr h) hp).trans (by simp [SubRecord.reserved, h]))
    exact capacityLaw_mono (s := s) rfl (fun r k => le_of_eq (congrArg (·[r][k]) hsame)) hs
  | @seq q h =>
    rcases h.slots with hslots | hfits
    · exact capacityLaw_mono (s := s) hslots (fun _ _ => le_rfl) hs
    · exact (planFits_iff q.slots s.subt.plan).mp hfits
  | _ => exact hs

/-! ### The use counts (R53) -/

/-- The number of claims on input k: records that name it and spot entries for it. -/
def claimsOn (s : State) (k : InputNo) : Nat :=
  countIds (fun i => (s.record i).names k) + (s.seq.spots.filter fun e => e.input == k).length

/-- Use counts that follow the claims, with the modes left, keep the law. -/
theorem useLaw_follow {s t : State}
    (hcount : ∀ k, (t.input k).useCount + claimsOn s k = (s.input k).useCount + claimsOn t k)
    (hmode : ∀ k, 0 < (t.input k).useCount →
      (t.input k).mode = .analog ∨ (0 < (s.input k).useCount ∧ (t.input k).mode = (s.input k).mode))
    (h : UseLaw s) : UseLaw t := by
  intro k
  obtain ⟨hs, hanalog⟩ := h k
  refine ⟨?_, fun hpos => ?_⟩
  · have hk := hcount k
    simp only [claimsOn] at hk
    omega
  · rcases hmode k hpos with hk | ⟨hused, hk⟩
    · exact hk
    · exact hk.trans (hanalog hused)

/-- A record replaced by one that names no other input but one in ANALOG mode. -/
theorem updateRecord_useLaw {s : State} {i : SubId} {x : SubRecord}
    (hnew : ∀ k, x.names k = true → (s.record i).names k = true ∨ (s.input k).mode = .analog)
    (h : UseLaw s) : UseLaw (updateRecord i x s) := by
  have hcount (k : InputNo) := countIds_replace (f := fun j => (s.record j).names k)
    (g := fun j => ((updateRecord i x s).record j).names k) i fun j hj => by
      rw [updateRecord_record, if_neg hj]
  simp only [updateRecord_record, if_pos] at hcount
  have huse (k : InputNo) : ((s.record i).names k).toNat ≤ (s.input k).useCount := by
    have := hcount k
    have hk := (h k).1
    cases hx : x.names k <;> cases ho : (s.record i).names k <;> simp only [hx, ho, Bool.toNat_true,
      Bool.toNat_false] at this ⊢ <;> try omega
    have hmem : i ∈ (List.finRange 32).filter fun j => (s.record j).names k := by simp [ho]
    have := List.length_pos_of_mem hmem
    simp only [countIds] at hk
    omega
  refine useLaw_follow (fun k => ?_) (fun k hpos => ?_) h
  · have hk := hcount k
    have hu := huse k
    rw [updateRecord_input]
    simp only [claimsOn, updateRecord_record]
    simp only [useAfter]
    have hseq : (updateRecord i x s).seq = s.seq := rfl
    rw [hseq]
    cases hx : x.names k <;> cases ho : (s.record i).names k <;>
      simp only [hx, ho, Bool.not_true, Bool.not_false, Bool.and_true, Bool.and_false, Bool.toNat_true,
        Bool.toNat_false, if_true, Bool.false_eq_true, if_false] at hk hu ⊢ <;> omega
  · rw [updateRecord_input] at hpos ⊢
    simp only [useAfter] at hpos
    by_cases hused : 0 < (s.input k).useCount
    · exact .inr ⟨hused, rfl⟩
    · have hu := huse k
      have hzero : (s.record i).names k = false := by
        cases ho : (s.record i).names k
        · rfl
        · simp only [ho, Bool.toNat_true] at hu; omega
      cases hx : x.names k
      · simp only [hx, hzero, Bool.false_and, Bool.false_eq_true, if_false] at hpos
        exact absurd hpos hused
      · exact .inl ((hnew k hx).resolve_left (by simp [hzero]))

theorem recordMoved_useLaw {s : State} {i : SubId} {x : SubRecord} (hx : x.reserved = none)
    (hnames : ∀ k, x.names k = true → (s.record i).names k = true) (h : UseLaw s) :
    UseLaw (recordMoved i x s) :=
  updateRecord_unreserved (i := i) (s := s) hx ▸ updateRecord_useLaw (fun k hk => .inl (hnames k hk)) h

theorem filter_input_length (l : List SpotEntry) (k : InputNo) :
    (l.filter fun e => e.input == k).length = (l.map SpotEntry.input).count k := by
  rw [List.count_eq_countP, List.countP_map, List.countP_eq_length_filter]
  rfl

/-- The entries that are left and those that have left are the entries there were, input by input. -/
theorem SpotsChange.count {q l gone : List SpotEntry} (h : SpotsChange q l gone) (k : InputNo) :
    (l.filter fun e => e.input == k).length + (gone.filter fun e => decide (e.input = k)).length =
      (q.filter fun e => e.input == k).length := by
  have hdec : (fun e : SpotEntry => decide (e.input = k)) = fun e => e.input == k := rfl
  rw [hdec, filter_input_length, filter_input_length, filter_input_length, ← h.inputs.count_eq k,
    List.map_append, List.count_append]

theorem spotsLeft_input (l gone : List SpotEntry) (s : State) (k : InputNo) :
    (spotsLeft l gone s).input k = { s.input k with
      useCount := (s.input k).useCount - (gone.filter fun e => decide (e.input = k)).length } :=
  tabulate_getElem _ _

theorem spotQueued_input (e : SpotEntry) (s : State) (k : InputNo) :
    (spotQueued e s).input k = if k = e.input then
      { s.input e.input with useCount := (s.input e.input).useCount + 1 } else s.input k :=
  put_getElem _ _ _ _

theorem updateLine_input (l : LineNo) (x : Line) (s : State) (k : InputNo) :
    (updateLine l x s).input k = { s.input k with drive := ((updateLine l x s).input k).drive } := by
  rw [updateLine_eq, State.setInput_input]
  by_cases hk : k = lineInput l
  · rw [if_pos hk, hk]
  · rw [if_neg hk]; rfl

theorem useLaw_kept {s t : State} (h : Change s t) (hs : UseLaw s) : UseLaw t := by
  cases h with
  | @line l x h =>
    refine useLaw_follow (fun k => ?_) (fun k hpos => .inr ?_) hs
    · rw [updateLine_input]; rfl
    · rw [updateLine_input] at hpos ⊢
      exact ⟨hpos, rfl⟩
  | @input k x hcount hunused htrip =>
    refine useLaw_follow (fun j => ?_) (fun j hpos => .inr ?_) hs
    · have hclaims : claimsOn (s.setInput k x) j = claimsOn s j := rfl
      rw [State.setInput_input, hclaims]
      by_cases hj : j = k
      · rw [if_pos hj, hj, hcount, hunused]
      · rw [if_neg hj]
    · by_cases hj : j = k
      · rw [State.setInput_input, if_pos hj, hcount] at hpos
        omega
      · rw [State.setInput_input, if_neg hj] at hpos ⊢
        exact ⟨hpos, rfl⟩
  | records h =>
    intro k
    have hk := hs k
    have hnames : (fun i => (s.record i).names k) = _ :=
      funext fun i => congrFun ((h i).toSameClaims.names).symm k
    rw [hnames] at hk
    exact hk
  | @claim i x p h =>
    obtain ⟨hst, hstate, hmode, -⟩ := h
    refine updateRecord_useLaw (fun k hk => ?_) hs
    have hp : ∀ {k}, namesInput x.staged k = true → (s.input k).mode = .analog := by
      intro k hk
      rw [hst, namesInput, beq_iff_eq] at hk
      rw [← hk]; exact hmode
    rcases hstate with ⟨-, hx⟩ | ⟨hlive | hlive, hx, hcur, -⟩
    · rw [SubRecord.names, hx] at hk
      exact .inr (hp hk)
    · rw [SubRecord.names, hx, hlive] at hk
      exact .inr (hp hk)
    · rw [SubRecord.names, hx, hlive, hcur] at hk
      rcases Bool.or_eq_true_iff.mp hk with hk | hk
      · exact .inl (by rw [SubRecord.names, hlive]; simp [hk])
      · exact .inr (hp hk)
  | free i =>
    exact recordMoved_useLaw (i := i) (x := {}) rfl (fun k hk => by simp [SubRecord.names] at hk) hs
  | @close i h =>
    refine recordMoved_useLaw (i := i) (x := { s.record i with state := .closing, staged := none }) rfl
      (fun k hk => ?_) hs
    simp only [SubRecord.names] at hk
    simp [SubRecord.names, h, hk]
  | @activate i p h hp =>
    refine updateRecord_useLaw (fun k hk => .inl ?_) hs
    simp only [SubRecord.names, namesInput, Bool.or_false] at hk
    simp [SubRecord.names, h, hp, namesInput, hk]
  | @retake i p h hp =>
    refine updateRecord_useLaw (fun k hk => .inl ?_) hs
    simp only [SubRecord.names, h, namesInput, Bool.or_false] at hk
    simp [SubRecord.names, h, hp, namesInput, hk]
  | @seq q h =>
    intro k
    have hk := hs k
    rw [← h.spots] at hk
    exact hk
  | @spots l gone h =>
    refine useLaw_follow (fun k => ?_) (fun k hpos => .inr ?_) hs
    · have hcount := h.count k
      have hk := (hs k).1
      rw [spotsLeft_input]
      simp only [claimsOn]
      have hrec : (spotsLeft l gone s).record = s.record := rfl
      have hspots : (spotsLeft l gone s).seq.spots = l := rfl
      rw [hrec, hspots]
      omega
    · rw [spotsLeft_input] at hpos ⊢
      exact ⟨Nat.lt_of_lt_of_le hpos (Nat.sub_le _ _), rfl⟩
  | @join e h =>
    refine useLaw_follow (fun k => ?_) (fun k hpos => ?_) hs
    · have hrec : (spotQueued e s).record = s.record := rfl
      have hspots : (spotQueued e s).seq.spots = s.seq.spots ++ [e] := rfl
      rw [spotQueued_input]
      simp only [claimsOn, hrec, hspots, List.filter_append, List.length_append]
      by_cases hk : k = e.input
      · subst hk; simp; omega
      · have : ¬ e.input = k := fun he => hk he.symm
        simp [hk, this]
    · rw [spotQueued_input] at hpos ⊢
      by_cases hk : k = e.input
      · rw [if_pos hk]; exact .inl h.mode
      · rw [if_neg hk] at hpos ⊢
        exact .inr ⟨hpos, rfl⟩
  | _ => exact hs

/-! ### The spot queue (R66) -/

theorem spotLaw_kept {s t : State} (h : Change s t) (hs : SpotLaw s) : SpotLaw t := by
  cases h with
  | @seq q h =>
    have hs' := hs
    rw [SpotLaw, ← h.spots] at hs'
    exact hs'
  | @spots l gone h =>
    obtain ⟨hlen, hport, hnodup⟩ := hs
    have hpair : (l.map fun e => (e.port, e.tag)).Sublist (s.seq.spots.map fun e => (e.port, e.tag)) := by
      simpa [SpotEntry.key, Function.comp_def] using h.sublist.map fun x => (x.1, x.2.1)
    have hports : (l.map SpotEntry.port).Sublist (s.seq.spots.map SpotEntry.port) := by
      simpa [SpotEntry.key, Function.comp_def] using h.sublist.map fun x => x.1
    have hcount (n : Port) (q : List SpotEntry) : (q.filter fun e => e.port == n).length =
        (q.map SpotEntry.port).count n := by
      rw [List.count_eq_countP, List.countP_map, List.countP_eq_length_filter]
      rfl
    refine ⟨?_, fun n => ?_, hpair.nodup hnodup⟩
    · have hle := hports.length_le
      rw [List.length_map, List.length_map] at hle
      exact hle.trans hlen
    · have := hport n
      rw [hcount] at this ⊢
      exact (hports.count_le n).trans this
  | @join e h =>
    obtain ⟨hlen, hport, hnodup⟩ := hs
    have hroom := h.room
    refine ⟨?_, fun n => ?_, ?_⟩
    · simpa [spotQueued] using hroom
    · have hn := hport n
      have hshare := h.share
      simp only [spotQueued, List.filter_append, List.length_append]
      by_cases he : e.port = n
      · subst he; simp; omega
      · simp [he]; omega
    · simp only [spotQueued, List.map_append, List.map_cons, List.map_nil]
      refine List.nodup_append.mpr ⟨hnodup, by simp, ?_⟩
      rintro x hx y hy rfl
      rw [List.mem_singleton] at hy
      exact h.new (hy ▸ hx)
  | _ => exact hs

end Sys2Proof.Machine
end

section
/-! SUPPORT. The laws of alarm sets, windows and watches, and trip lines are kept by every change. -/

namespace Sys2Proof.Machine

open Sys2Proof.Safety

/-! ### Alarm sets (R107) -/

theorem insertId_pairwise (i : SubId) {l : List SubId} (h : l.Pairwise (· < ·)) :
    (insertId i l).Pairwise (· < ·) := by
  induction l with
  | nil => simp [insertId]
  | cons j l ih =>
    obtain ⟨hj, hl⟩ := List.pairwise_cons.mp h
    rw [insertId]
    split
    next hij =>
      refine List.pairwise_cons.mpr ⟨fun x hx => ?_, h⟩
      rcases List.mem_cons.mp hx with rfl | hx
      · exact hij
      · exact hij.trans (hj x hx)
    next hij =>
      split
      next => exact h
      next hne =>
        refine List.pairwise_cons.mpr ⟨fun x hx => ?_, ih hl⟩
        have hmem := (mem_alarmAfter i x (some ⟨⟨0, 0, 0, 0, some 0⟩, 0, .highAlarm, 0, false⟩) 0 l).mp
          (by simpa [alarmAfter, inAlarmSet, WatchState.alarm] using hx)
        by_cases hxi : x = i
        · subst hxi
          exact lt_of_le_of_ne (not_lt.mp hij) fun e => hne e.symm
        · rw [if_neg hxi] at hmem
          exact hj x hmem

theorem alarmAfter_pairwise (i : SubId) (w : Option Watch) (t : LineNo) {l : List SubId}
    (h : l.Pairwise (· < ·)) : (alarmAfter i w t l).Pairwise (· < ·) := by
  rw [alarmAfter]
  split
  · exact insertId_pairwise i h
  · exact h.filter _

theorem filter_finRange_pairwise {n : Nat} (f : Fin n → Bool) :
    ((List.finRange n).filter f).Pairwise (· < ·) :=
  (List.sortedLT_finRange n).pairwise.filter _

/-- The alarm sets follow a watch that is replaced (R107). -/
theorem updateWatch_alarmLaw {s : State} (i : SubId) (w : Option Watch) (h : AlarmLaw s) :
    AlarmLaw (updateWatch i w s) := by
  intro t
  rw [updateWatch_alarms, h t]
  refine (alarmAfter_pairwise i w t (filter_finRange_pairwise _)).eq_of_mem_iff
    (filter_finRange_pairwise _) fun j => ?_
  rw [mem_alarmAfter, List.mem_filter, List.mem_filter, updateWatch_watch]
  by_cases hj : j = i <;> simp [hj]

theorem alarmLaw_mem {s : State} (h : AlarmLaw s) {t : LineNo} {i : SubId} :
    i ∈ s.alarms t ↔ inAlarmSet (s.watch i) t = true := by
  rw [h t, List.mem_filter]
  exact and_iff_right (List.mem_finRange i)

theorem freezeWatch_alarmLaw {s : State} (i : SubId) (h : AlarmLaw s) : AlarmLaw (freezeWatch i s) := by
  rw [freezeWatch]
  split
  · exact h
  · exact updateWatch_alarmLaw _ _ h

theorem restartWatch_alarmLaw {s : State} (i : SubId) (old new : Option WatchPart) (gen : BitVec 8)
    (h : AlarmLaw s) : AlarmLaw (restartWatch i old new gen s) := by
  rw [restartWatch]
  split
  · split
    · exact h
    · exact updateWatch_alarmLaw _ _ h
  · exact updateWatch_alarmLaw _ _ h

theorem recordDropped_wtu (i : SubId) (s : State) : (recordDropped i s).wtu = (updateWatch i none s).wtu := by
  simp [recordDropped, updateWatch_eq, alarmAfter, inAlarmSet]

theorem alarmLaw_of_wtu {s t : State} (h : t.wtu = s.wtu) (hs : AlarmLaw s) : AlarmLaw t := by
  intro l
  simp only [State.alarms, State.watch, h]
  exact hs l

theorem alarmLaw_kept {s t : State} (h : Change s t) (hs : AlarmLaw s) : AlarmLaw t := by
  cases h with
  | watch hw h => exact updateWatch_alarmLaw _ _ hs
  | free i => exact alarmLaw_of_wtu (recordDropped_wtu i s) (updateWatch_alarmLaw i none hs)
  | @close i h => exact freezeWatch_alarmLaw (s := recordClosed i s) i hs
  | activate h hp => exact updateWatch_alarmLaw (s := State.setWindow _ _ _) _ _ hs
  | @retake i p h hp => exact restartWatch_alarmLaw (s := windowRetaken i p s) _ _ _ _ hs
  | _ => exact hs

/-! ### The alarm set of an ARMED line (section 7.1) -/

/-- The alarm set of an ARMED line is empty. -/
def ArmedLaw (s : State) : Prop := ∀ l : LineNo, (s.line l).state = .armed → s.alarms l = []

/-- A watch replaced by one that joins the alarm set of no ARMED line. -/
theorem updateWatch_armedLaw {s : State} {i : SubId} {w : Option Watch}
    (hw : ∀ l, inAlarmSet w l = true → (s.line l).state ≠ .armed) (h : ArmedLaw s) :
    ArmedLaw (updateWatch i w s) := by
  intro l hl
  have hout : inAlarmSet w l = false := Bool.eq_false_iff.mpr fun hin => hw l hin hl
  rw [updateWatch_alarms, h l hl, alarmAfter, hout]
  rfl

theorem armedLaw_of_wtu {s t : State} (h : t.wtu = s.wtu) (hl : t.tripc = s.tripc) (hs : ArmedLaw s) :
    ArmedLaw t := by
  intro l
  simp only [State.alarms, State.line, h, hl]
  exact hs l

theorem inAlarmSet_frozen {w : Watch} (h : w.frozen = true) (l : LineNo) : inAlarmSet (some w) l = false := by
  simp [inAlarmSet, h]

theorem inAlarmSet_started (p : Option WatchPart) (gen : BitVec 8) (l : LineNo) :
    inAlarmSet (p.map (startWatch gen)) l = false := by
  cases p <;> simp [inAlarmSet, startWatch, WatchState.alarm]

theorem freezeWatch_armedLaw {s : State} (i : SubId) (h : ArmedLaw s) : ArmedLaw (freezeWatch i s) := by
  rw [freezeWatch]
  split
  · exact h
  · refine updateWatch_armedLaw (fun l hin => ?_) h
    rw [inAlarmSet_frozen rfl] at hin
    exact absurd hin (by decide)

/-- A member of an alarm set keeps its line from being ARMED. -/
theorem ArmedLaw.not_armed {s : State} (h : ArmedLaw s) (ha : AlarmLaw s) {i : SubId} {l : LineNo}
    (hin : inAlarmSet (s.watch i) l = true) : (s.line l).state ≠ .armed := by
  intro hl
  have hmem := (alarmLaw_mem ha).mpr hin
  rw [h l hl] at hmem
  exact List.not_mem_nil hmem

theorem restartWatch_armedLaw {s : State} (i : SubId) (old new : Option WatchPart) (gen : BitVec 8)
    (ha : AlarmLaw s) (h : ArmedLaw s) : ArmedLaw (restartWatch i old new gen s) := by
  rw [restartWatch]
  split
  · split
    next => exact h
    next w hw =>
      refine updateWatch_armedLaw (fun l hin => h.not_armed (i := i) ha ?_) h
      rw [hw]
      exact hin
  · refine updateWatch_armedLaw (fun l hin => ?_) h
    rw [inAlarmSet_started] at hin
    exact absurd hin Bool.false_ne_true

theorem updateLine_line (l : LineNo) (x : Line) (s : State) (t : LineNo) :
    (updateLine l x s).line t = if t = l then x else s.line t := by
  rw [updateLine_eq]
  exact State.setLine_line s l t x

theorem armedLaw_kept {s t : State} (h : Change s t) (ha : AlarmLaw s) (hs : ArmedLaw s) : ArmedLaw t := by
  cases h with
  | @line l x h =>
    intro t ht
    rw [updateLine_line] at ht
    by_cases htl : t = l
    · rw [if_pos htl] at ht
      rcases h.armed ht with harmed | hempty
      · rw [htl]; exact hs l harmed
      · rw [htl]; exact hempty
    · rw [if_neg htl] at ht
      exact hs t ht
  | @watch i w w' hw h =>
    refine updateWatch_armedLaw (fun l hin => ?_) hs
    rcases h.alarm l hin with hold | hline
    · exact hs.not_armed ha (hw ▸ hold)
    · exact hline
  | free i =>
    exact armedLaw_of_wtu (s := updateWatch i none s) (recordDropped_wtu i s) rfl
      (updateWatch_armedLaw (fun l hin => absurd hin Bool.false_ne_true) hs)
  | @close i h =>
    rw [← closeActive_shut, closeActive_eq]
    exact freezeWatch_armedLaw (s := recordClosed i s) i hs
  | activate h hp =>
    refine updateWatch_armedLaw (s := State.setWindow _ _ _) (fun l hin => ?_) hs
    rw [inAlarmSet_started] at hin
    exact absurd hin Bool.false_ne_true
  | @retake i p h hp =>
    rw [recordRetaken_eq]
    exact restartWatch_armedLaw (s := windowRetaken i p s) i _ _ _ ha hs
  | _ => exact hs

/-! ### Windows and watches (R81, R82, R100, R112) -/

/-- The law of the window and the watch of one record. -/
structure RecordLaw (r : SubRecord) (win : Option Window) (wat : Option Watch) : Prop where
  active : win.isSome = true ↔ r.state = .active
  window : ∀ w, win = some w → w.generation = r.generation ∧
    r.current.map Params.average = some w.average ∧ r.current.map Params.profile = some w.profile ∧
    PositionLaw w
  watched : r.state = .active → wat.map Watch.part = r.current.bind Params.watch ∧
    ∀ w, wat = some w → w.frozen = false ∧ w.generation = r.generation
  closing : r.state = .closing → ∀ w, wat = some w → w.frozen = true
  unwatched : r.state = .free ∨ r.state = .staged → wat = none

theorem windowLaw_iff (s : State) :
    WindowLaw s ↔ ∀ i, RecordLaw (s.record i) (s.window i) (s.watch i) :=
  ⟨fun h i => ⟨(h i).1, (h i).2.1, (h i).2.2.1, (h i).2.2.2.1, (h i).2.2.2.2⟩,
    fun h i => ⟨(h i).active, (h i).window, (h i).watched, (h i).closing, (h i).unwatched⟩⟩

/-- One record with its window and watch replaced. -/
theorem windowLaw_replace {s t : State} (i : SubId)
    (hother : ∀ j, j ≠ i → t.record j = s.record j ∧ t.window j = s.window j ∧ t.watch j = s.watch j)
    (hi : RecordLaw (s.record i) (s.window i) (s.watch i) →
      RecordLaw (t.record i) (t.window i) (t.watch i)) (h : WindowLaw s) : WindowLaw t := by
  rw [windowLaw_iff] at h ⊢
  intro j
  by_cases hj : j = i
  · rw [hj]; exact hi (h i)
  · obtain ⟨hrec, hwin, hwat⟩ := hother j hj
    rw [hrec, hwin, hwat]; exact h j

theorem RecordLaw.freed : RecordLaw {} none none :=
  ⟨by simp, fun _ hw => by simp at hw, fun hs => by simp at hs, fun hs => by simp at hs, fun _ => rfl⟩

theorem RecordLaw.activated (r : SubRecord) (p : Params) :
    RecordLaw { r with state := .active, current := some p, staged := none, generation := 0 }
      (some (startWindow 0 p)) (p.watch.map (startWatch 0)) where
  active := by simp
  window := by
    rintro w ⟨rfl⟩
    exact ⟨rfl, rfl, rfl, by cases h : p.average <;> simp [startWindow, h, Average.count], rfl, by simp [startWindow]⟩
  watched := by
    intro _
    cases hq : p.watch with
    | none => simp [hq]
    | some q => simp [startWatch, hq]
  closing := by simp
  unwatched := by simp

theorem RecordLaw.retaken {r : SubRecord} {win : Option Window} {wat : Option Watch} (p : Params)
    (hr : r.state = .active) (h : RecordLaw r win wat) :
    RecordLaw { r with current := some p, staged := none, generation := r.generation + 1 }
      (some (startWindow (r.generation + 1) p)) (retakenWatch r wat p) where
  active := by simp [hr]
  window := by
    rintro w ⟨rfl⟩
    exact ⟨rfl, rfl, rfl, by cases h : p.average <;> simp [startWindow, h, Average.count], rfl, by simp [startWindow]⟩
  watched := by
    intro _
    obtain ⟨hpart, hwat⟩ := h.watched hr
    have hbind : r.current.bind Params.watch = watchPartOf r.current := by cases r.current <;> rfl
    rw [retakenWatch]
    split
    next hsame =>
      rw [hbind, hsame] at hpart
      refine ⟨by simpa [Function.comp_def] using hpart, fun w hw => ?_⟩
      obtain ⟨v, hv, rfl⟩ := Option.map_eq_some_iff.mp hw
      exact ⟨(hwat v hv).1, rfl⟩
    next =>
      cases hq : p.watch with
      | none => simp [hq]
      | some q => simp [startWatch, hq]
  closing := by simp [hr]
  unwatched := by simp [hr]

theorem RecordLaw.closed {r : SubRecord} {wat : Option Watch} :
    RecordLaw { r with state := .closing, staged := none } none
      (wat.map fun w => { w with frozen := true }) where
  active := by simp
  window := fun _ hw => by simp at hw
  watched := fun hs => by simp at hs
  closing := by
    rintro - w hw
    obtain ⟨v, -, rfl⟩ := Option.map_eq_some_iff.mp hw
    rfl
  unwatched := fun hs => by simp at hs

/-- The law of a record sees its state, its current parameters and its generation alone. -/
theorem RecordLaw.congr {r x : SubRecord} {win : Option Window} {wat : Option Watch} (hs : x.state = r.state)
    (hc : x.current = r.current) (hg : x.generation = r.generation) (h : RecordLaw r win wat) :
    RecordLaw x win wat :=
  ⟨by rw [hs]; exact h.active, by rw [hc, hg]; exact h.window, by rw [hs, hc, hg]; exact h.watched,
    by rw [hs]; exact h.closing, by rw [hs]; exact h.unwatched⟩

theorem recordDropped_record (i j : SubId) (s : State) :
    (recordDropped i s).record j = if j = i then {} else s.record j := put_getElem _ _ _ _

theorem recordDropped_window (i j : SubId) (s : State) :
    (recordDropped i s).window j = if j = i then none else s.window j := put_getElem _ _ _ _

theorem recordDropped_watch (i j : SubId) (s : State) :
    (recordDropped i s).watch j = if j = i then none else s.watch j := put_getElem _ _ _ _

theorem recordShut_record (i j : SubId) (s : State) : (recordShut i s).record j =
    if j = i then { s.record i with state := .closing, staged := none } else s.record j :=
  recordMoved_record _ _ _ _

theorem recordShut_window (i j : SubId) (s : State) :
    (recordShut i s).window j = if j = i then none else s.window j := put_getElem _ _ _ _

theorem recordShut_watch (i j : SubId) (s : State) : (recordShut i s).watch j =
    if j = i then (s.watch i).map fun w => { w with frozen := true } else s.watch j :=
  freezeWatch_watch i j (recordClosed i s)

theorem recordActivated_record (i j : SubId) (p : Params) (s : State) : (recordActivated i p s).record j =
    if j = i then
      { s.record i with state := .active, current := some p, staged := none, generation := 0 }
    else s.record j := updateRecord_record _ _ _ _

theorem recordActivated_window (i j : SubId) (p : Params) (s : State) : (recordActivated i p s).window j =
    if j = i then some (startWindow 0 p) else s.window j := put_getElem _ _ _ _

theorem recordActivated_watch (i j : SubId) (p : Params) (s : State) : (recordActivated i p s).watch j =
    if j = i then p.watch.map (startWatch 0) else s.watch j := put_getElem _ _ _ _

theorem recordRetaken_record (i j : SubId) (p : Params) (s : State) : (recordRetaken i p s).record j =
    if j = i then
      { s.record i with current := some p, staged := none, generation := (s.record i).generation + 1 }
    else s.record j := updateRecord_record _ _ _ _

theorem recordRetaken_window (i j : SubId) (p : Params) (s : State) : (recordRetaken i p s).window j =
    if j = i then some (startWindow ((s.record i).generation + 1) p) else s.window j := put_getElem _ _ _ _

theorem recordRetaken_watch (i j : SubId) (p : Params) (s : State) : (recordRetaken i p s).watch j =
    if j = i then retakenWatch (s.record i) (s.watch i) p else s.watch j := by
  have hwatch : (windowRetaken i p s).watch i = s.watch i := rfl
  rw [recordRetaken_eq, restartWatch, retakenWatch]
  split
  · cases hw : s.watch i with
    | none =>
      rw [hw] at hwatch
      by_cases hj : j = i
      · rw [if_pos hj, hj, hwatch]; exact hwatch
      · rw [if_neg hj, hwatch]; rfl
    | some w =>
      rw [hw] at hwatch
      rw [hwatch]
      exact updateWatch_watch i j _ (windowRetaken i p s)
  · exact updateWatch_watch i j _ (windowRetaken i p s)

theorem recordActivated_pin (i : SubId) (p : Params) (s : State) (k : InputNo) :
    ((recordActivated i p s).input k).mode = (s.input k).mode ∧
      ((recordActivated i p s).input k).polarity = (s.input k).polarity ∧
      ((recordActivated i p s).input k).drive = (s.input k).drive := by
  have h := updateRecord_input i
    { s.record i with state := .active, current := some p, staged := none, generation := 0 } s k
  exact ⟨congrArg (·.mode) h, congrArg (·.polarity) h, congrArg (·.drive) h⟩

theorem recordRetaken_pin (i : SubId) (p : Params) (s : State) (k : InputNo) :
    ((recordRetaken i p s).input k).mode = (s.input k).mode ∧
      ((recordRetaken i p s).input k).polarity = (s.input k).polarity ∧
      ((recordRetaken i p s).input k).drive = (s.input k).drive := by
  have h := updateRecord_input i
    { s.record i with current := some p, staged := none, generation := (s.record i).generation + 1 } s k
  exact ⟨congrArg (·.mode) h, congrArg (·.polarity) h, congrArg (·.drive) h⟩

theorem windowLaw_kept {s t : State} (h : Change s t) (hs : WindowLaw s) : WindowLaw t := by
  cases h with
  | @window i w w' hw h =>
    refine windowLaw_replace (s := s) i (fun j hj => ⟨rfl, by rw [State.setWindow_window, if_neg hj], rfl⟩)
      (fun hi => ?_) hs
    rw [State.setWindow_window_same]
    obtain ⟨hactive, hwin, hwat, hclosing, hnone⟩ := hi
    refine ⟨by simpa [hw] using hactive, ?_, hwat, hclosing, hnone⟩
    rintro x ⟨rfl⟩
    obtain ⟨hgen, havg, hprof, hpos⟩ := hwin w hw
    exact ⟨h.generation.trans hgen, h.average ▸ havg, h.profile ▸ hprof, h.position hpos⟩
  | @watch i w w' hw h =>
    refine windowLaw_replace (s := s) i (fun j hj => ⟨rfl, rfl, by rw [updateWatch_watch, if_neg hj]⟩) (fun hi => ?_) hs
    rw [updateWatch_watch, if_pos rfl]
    obtain ⟨hactive, hwin, hwat, hclosing, hnone⟩ := hi
    refine ⟨hactive, hwin, fun hst => ?_, fun hst v hv => ?_, fun hst => ?_⟩
    · obtain ⟨hpart, hold⟩ := hwat hst
      rw [hw] at hpart
      refine ⟨(congrArg some h.part).trans hpart, ?_⟩
      rintro v ⟨rfl⟩
      rw [h.frozen, h.generation]
      exact hold w hw
    · obtain rfl := Option.some.inj hv
      rw [h.frozen]
      exact hclosing hst w hw
    · rw [hnone hst] at hw
      exact absurd hw (by simp)
  | @records rs h =>
    rw [windowLaw_iff] at hs ⊢
    intro i
    obtain ⟨hstate, hcur, -, hgen⟩ := (h i).toSameClaims
    exact (hs i).congr hstate hcur hgen
  | @claim i x p h =>
    refine windowLaw_replace (s := s) i (fun j hj => ⟨by rw [updateRecord_record, if_neg hj], rfl, rfl⟩)
      (fun hi => ?_) hs
    rw [updateRecord_record, if_pos rfl]
    rcases h.state with ⟨hfree, hx⟩ | ⟨-, hstate, hcur, hgen⟩
    · have hwin : s.window i = none := by
        cases hw : s.window i with
        | none => rfl
        | some w => exact absurd (hi.active.mp (by simp [hw])) (by simp [hfree])
      have hwat := hi.unwatched (.inl hfree)
      change RecordLaw x (s.window i) (s.watch i)
      rw [hwin, hwat]
      exact ⟨by simp [hx], fun _ hw => by simp at hw, by simp [hx], by simp [hx], fun _ => rfl⟩
    · exact hi.congr hstate hcur hgen
  | free i =>
    refine windowLaw_replace (s := s) i (fun j hj => ?_) (fun hi => ?_) hs
    · simp only [recordDropped_record, recordDropped_window, recordDropped_watch, if_neg hj, and_self]
    · simp only [recordDropped_record, recordDropped_window, recordDropped_watch, if_pos]
      exact .freed
  | @close i h =>
    refine windowLaw_replace (s := s) i (fun j hj => ?_) (fun hi => ?_) hs
    · simp only [recordShut_record, recordShut_window, recordShut_watch, if_neg hj, and_self]
    · simp only [recordShut_record, recordShut_window, recordShut_watch, if_pos]
      exact .closed
  | @activate i p h hp =>
    refine windowLaw_replace (s := s) i (fun j hj => ?_) (fun hi => ?_) hs
    · simp only [recordActivated_record, recordActivated_window, recordActivated_watch, if_neg hj, and_self]
    · simp only [recordActivated_record, recordActivated_window, recordActivated_watch, if_pos]
      exact .activated _ p
  | @retake i p h hp =>
    refine windowLaw_replace (s := s) i (fun j hj => ?_) (fun hi => ?_) hs
    · simp only [recordRetaken_record, recordRetaken_window, recordRetaken_watch, if_neg hj, and_self]
    · simp only [recordRetaken_record, recordRetaken_window, recordRetaken_watch, if_pos]
      exact hi.retaken p h
  | _ => exact hs

/-! ### Trip lines and pins (R114, R115) -/

/-- The law of one pin: a pin without a trip line is not in TRIP mode, and mode, polarity and line give the level
(R54, R115). -/
def PinLaw (k : InputNo) (x : InputRecord) (tripped : Bool) : Prop :=
  (inputLine k = none → x.mode ≠ .trip) ∧ x.drive = driveFor x.mode x.polarity tripped

theorem tripLaw_iff (s : State) : TripLaw s ↔
    (∀ l, LineLaw (s.line l) (s.input (lineInput l)).mode) ∧ ∀ k, PinLaw k (s.input k) (lineTripped s k) := by
  have hdrive (m : InputMode) (p : Polarity) (b : Bool) : driveFor m p b = (match m, p, b with
      | .analog, _, _ => .analogInput
      | .off, _, _ => .highImpedance
      | .trip, .activeHigh, true => .drivenHigh
      | .trip, .activeHigh, false => .drivenLow
      | .trip, .activeLow, true => .drivenLow
      | .trip, .activeLow, false => .drivenHigh) := by
    cases m <;> cases p <;> cases b <;> rfl
  simp only [TripLaw, PinLaw, LineLaw, hdrive] <;> exact Iff.rfl

/-- Lines and inputs that keep mode, polarity and pin keep the law. -/
theorem tripLaw_congr {s t : State} (hl : t.tripc = s.tripc)
    (hk : ∀ k, (t.input k).mode = (s.input k).mode ∧ (t.input k).polarity = (s.input k).polarity ∧
      (t.input k).drive = (s.input k).drive) (h : TripLaw s) : TripLaw t := by
  rw [tripLaw_iff] at h ⊢
  have hline (l : LineNo) : t.line l = s.line l := congrArg (·.lines[l]) hl
  obtain ⟨hlines, hpins⟩ := h
  refine ⟨fun l => ?_, fun k => ?_⟩
  · rw [hline, (hk (lineInput l)).1]; exact hlines l
  · obtain ⟨hm, hp, hd⟩ := hk k
    have hpin := hpins k
    simp only [PinLaw, lineTripped, hline, hm, hp, hd] at hpin ⊢
    exact hpin

theorem updateLine_tripLaw {s : State} {l : LineNo} {x : Line}
    (hx : LineLaw (s.line l) (s.input (lineInput l)).mode → LineLaw x (s.input (lineInput l)).mode)
    (h : TripLaw s) : TripLaw (updateLine l x s) := by
  rw [tripLaw_iff] at h ⊢
  obtain ⟨hlines, hpins⟩ := h
  have hmode (k : InputNo) : ((updateLine l x s).input k).mode = (s.input k).mode := by
    rw [updateLine_input]
  refine ⟨fun m => ?_, fun k => ?_⟩
  · rw [hmode, updateLine_line]
    by_cases hm : m = l
    · rw [if_pos hm, hm]; exact hx (hlines l)
    · rw [if_neg hm]; exact hlines m
  · obtain ⟨hnone, hdrive⟩ := hpins k
    by_cases hk : k = lineInput l
    · have hl : inputLine k = some l := inputLine_eq_some.mpr hk.symm
      have htrip : lineTripped (updateLine l x s) k = (x.state == .tripped) := by
        rw [lineTripped, hl]
        simp only [updateLine_line, if_pos]
      have hinput : (updateLine l x s).input k = { s.input k with
          drive := driveFor (s.input k).mode (s.input k).polarity (x.state == .tripped) } := by
        rw [updateLine_eq, State.setInput_input, if_pos hk, hk]
      rw [PinLaw, hinput, htrip]
      exact ⟨hnone, rfl⟩
    · have hinput : (updateLine l x s).input k = s.input k := by
        rw [updateLine_eq, State.setInput_input, if_neg hk]; rfl
      have htrip : lineTripped (updateLine l x s) k = lineTripped s k := by
        rw [lineTripped, lineTripped]
        split
        next => rfl
        next m hm =>
          have hml : m ≠ l := fun e => hk (e ▸ (inputLine_eq_some.mp hm).symm)
          rw [updateLine_line, if_neg hml]
      rw [hinput, htrip]
      exact ⟨hnone, hdrive⟩

theorem tripLaw_kept {s t : State} (h : Change s t) (hs : TripLaw s) : TripLaw t := by
  cases h with
  | line h => exact updateLine_tripLaw h.law hs
  | input hcount hunused htrip => exact htrip hs
  | claim h => exact tripLaw_congr (s := s) rfl (fun k => by rw [updateRecord_input]; exact ⟨rfl, rfl, rfl⟩) hs
  | free i =>
    refine tripLaw_congr (s := s) rfl (fun k => ?_) hs
    have hk := recordMoved_useFollows i {} s k
    exact ⟨congrArg (·.mode) hk, congrArg (·.polarity) hk, congrArg (·.drive) hk⟩
  | @close i h =>
    refine tripLaw_congr (s := s) rfl (fun k => ?_) hs
    have hk := recordMoved_useFollows i { s.record i with state := .closing, staged := none } s k
    exact ⟨congrArg (·.mode) hk, congrArg (·.polarity) hk, congrArg (·.drive) hk⟩
  | @activate i p h hp =>
    exact tripLaw_congr (s := s) rfl (recordActivated_pin i p s) hs
  | @retake i p h hp =>
    exact tripLaw_congr (s := s) rfl (recordRetaken_pin i p s) hs
  | spots h => exact tripLaw_congr (s := s) rfl (fun k => by rw [spotsLeft_input]; exact ⟨rfl, rfl, rfl⟩) hs
  | join h =>
    refine tripLaw_congr (s := s) rfl (fun k => ?_) hs
    rw [spotQueued_input]
    split
    next hk => subst hk; exact ⟨rfl, rfl, rfl⟩
    next => exact ⟨rfl, rfl, rfl⟩
  | _ => exact hs

end Sys2Proof.Machine
end

section
/-! SUPPORT. The laws of votes, converter, profiles, sessions and delivery are kept by every change, and so are
the queue of commands, the reset in progress and, of every port controller, all but what taking a frame changes. -/

namespace Sys2Proof.Machine

open Sys2Proof.Safety

/-! ### Votes, frames, converter and profiles (R28, R34, R37, R41, R60, R62, R92, R96) -/

theorem voteLaw_kept {s t : State} (h : Change s t) (hs : VoteLaw s) : VoteLaw t := by
  cases h with
  | seq h => exact h.votes hs
  | _ => exact hs

theorem converterLaw_iff (s : State) :
    ConverterLaw s ↔ PowerLaw s.conv s.isel.routed ∧ FrameSeq s.seq :=
  ⟨fun ⟨a, b, c, d⟩ => ⟨⟨a, b, c⟩, d⟩, fun ⟨⟨a, b, c⟩, d⟩ => ⟨a, b, c, d⟩⟩

theorem powerLaw_kept {s t : State} (h : Change s t) (hs : PowerLaw s.conv s.isel.routed) :
    PowerLaw t.conv t.isel.routed := by
  cases h with
  | converter c routed flag refin h => exact h hs
  | _ => exact hs

theorem frameSeq_kept {s t : State} (h : Change s t) (hc : CapacityLaw s) (hs : FrameSeq s.seq) :
    FrameSeq t.seq := by
  cases h with
  | seq h => exact h.frame hc hs
  | _ => exact hs

theorem converterLaw_kept {s t : State} (h : Change s t) (hc : CapacityLaw s) (hs : ConverterLaw s) :
    ConverterLaw t := by
  rw [converterLaw_iff] at hs ⊢
  exact ⟨powerLaw_kept h hs.1, frameSeq_kept h hc hs.2⟩

theorem profileLaw_kept {s t : State} (h : Change s t) (hs : ProfileLaw s) : ProfileLaw t := by
  cases h with
  | profiles h =>
    obtain ⟨hzero, hstaged⟩ := hs
    exact ⟨(h 0).zero rfl hzero, fun hst p => (h p).stopped hst (hstaged hst p)⟩
  | seq h =>
    obtain ⟨hzero, hstaged⟩ := hs
    exact ⟨hzero, fun hst => (h.stopped hst).elim hstaged id⟩
  | _ => exact hs

/-! ### Port controllers, the reset in progress and the queue of commands -/

theorem SamePort.trans {p q r : PortCtl} (h : SamePort p q) (h' : SamePort q r) : SamePort p r :=
  ⟨⟨h.role.trans h'.role, h.session.trans h'.session, h.policy.trans h'.policy,
    h.watermark.trans h'.watermark, h.mask.trans h'.mask⟩, h.label.trans h'.label,
    h.timeout.trans h'.timeout, h.cause.trans h'.cause, h.transaction.trans h'.transaction,
    h.miso.trans h'.miso, h.misoCarried.trans h'.misoCarried⟩

theorem samePort_kept {s t : State} (h : Change s t) (n : Port) : SamePort (t.port n) (s.port n) := by
  cases h with
  | @port m p h =>
    rw [withPort_port]
    by_cases hn : n = m
    · rw [if_pos hn, hn]; exact h
    · rw [if_neg hn]; exact .refl _
  | _ => exact .refl _

theorem Changes.samePort {s t : State} (h : Changes s t) (n : Port) : SamePort (t.port n) (s.port n) :=
  h.keep (P := fun t => SamePort (t.port n) (s.port n)) (fun hst hs => (samePort_kept hst n).trans hs) (.refl _)

theorem SamePort.attached_iff {s t : State} {n : Port} (h : SamePort (t.port n) (s.port n)) :
    Attached n t ↔ Attached n s := by
  rw [Attached, Attached, h.session]

theorem SamePort.control_iff {s t : State} {n : Port} (h : SamePort (t.port n) (s.port n)) :
    Control n t ↔ Control n s := by
  rw [Control, Control, h.attached_iff, h.role]

theorem resetting_kept {s t : State} (h : Change s t) : t.resetting = s.resetting := by
  cases h <;> rfl

theorem pending_kept {s t : State} (h : Change s t) : t.pending = s.pending := by
  cases h <;> rfl

theorem Changes.resetting {s t : State} (h : Changes s t) : t.resetting = s.resetting :=
  h.keep (P := fun t => t.resetting = s.resetting) (fun hst hs => (resetting_kept hst).trans hs) rfl

theorem Changes.pending {s t : State} (h : Changes s t) : t.pending = s.pending :=
  h.keep (P := fun t => t.pending = s.pending) (fun hst hs => (pending_kept hst).trans hs) rfl

/-! ### Delivery (R130, R142, R144) -/

/-- The law of a port's queues sees session and watermark of its controller alone. -/
theorem QueueLaw.congr {p p' : PortCtl} {q : PortQueues} (h : SameSettings p p') (hq : QueueLaw p' q) :
    QueueLaw p q := by
  simp only [QueueLaw, h.session, h.watermark]
  exact hq

theorem queueLaw_kept {s t : State} (h : Change s t) (n : Port) (hs : QueueLaw (s.port n) (s.queues n)) :
    QueueLaw (t.port n) (t.queues n) := by
  cases h with
  | @queues m q hatt h =>
    rw [State.setQueues_queues]
    by_cases hn : n = m
    · subst hn; rw [if_pos rfl]; exact h hs
    · rw [if_neg hn]; exact hs
  | port h => exact hs.congr (samePort_kept (.port h) n).toSameSettings
  | _ => exact hs

/-! ### Sessions (R2, R28, R66, R97, R114) -/

/-- The record has an owner in `ctl`, or none and persist. -/
def OwnerIn (ctl : Port → Prop) (r : SubRecord) : Prop :=
  match r.owner with
  | none => r.persist = true
  | some n => ctl n

theorem OwnerIn.of_some {ctl : Port → Prop} {r : SubRecord} {n : Port} (h : r.owner = some n) (hn : ctl n) :
    OwnerIn ctl r := by
  rw [OwnerIn, h]; exact hn

theorem OwnerIn.of_none {ctl : Port → Prop} {r : SubRecord} (h : r.owner = none) (hp : r.persist = true) :
    OwnerIn ctl r := by
  rw [OwnerIn, h]; exact hp

theorem OwnerIn.congr {ctl : Port → Prop} {r x : SubRecord} (ho : x.owner = r.owner)
    (hp : x.persist = r.persist) (h : OwnerIn ctl r) : OwnerIn ctl x := by
  rw [OwnerIn, ho, hp]; exact h

theorem OwnerIn.mono {ctl ctl' : Port → Prop} {r : SubRecord} (hctl : ∀ n, ctl n → ctl' n)
    (h : OwnerIn ctl r) : OwnerIn ctl' r := by
  rw [OwnerIn] at h ⊢
  split at h
  · exact h
  · exact hctl _ h

/-- Every STAGED or ACTIVE record has an owner in `ctl`, or none and persist. -/
def OwnersIn (ctl : Port → Prop) (s : State) : Prop := ∀ i : SubId, Live (s.record i) → OwnerIn ctl (s.record i)

/-- Every reader is in `att`. -/
def ReadersIn (att : Port → Prop) (s : State) : Prop :=
  ∀ (i : SubId) (n : Port), (s.record i).readers.has n = true → att n

/-- Every voter is in `ctl`. -/
def VotersIn (ctl : Port → Prop) (s : State) : Prop := ∀ n : Port, s.seq.votes.has n = true → ctl n

/-- Every spot entry is of a port in `att`. -/
def SpotsIn (att : Port → Prop) (s : State) : Prop := ∀ e ∈ s.seq.spots, att e.port

/-- Every staged profile value is of a port in `ctl`. -/
def StagersIn (ctl : Port → Prop) (s : State) : Prop :=
  ∀ (p : ProfileNo) (v : StagedValue), (s.profile p).staged = some v → ctl v.port

/-- Every member of an arming set is in `ctl`. -/
def ArmersIn (ctl : Port → Prop) (s : State) : Prop :=
  ∀ (l : LineNo) (n : Port), (s.line l).arming.has n = true → ctl n

theorem sessionLaw_iff (s : State) : SessionLaw s ↔
    OwnersIn (Control · s) s ∧ ReadersIn (Attached · s) s ∧ VotersIn (Control · s) s ∧
    SpotsIn (Attached · s) s ∧ StagersIn (Control · s) s ∧ ArmersIn (Control · s) s := Iff.rfl

section
variable {s t : State} {ctl : Port → Prop} (h : Change s t)
include h

theorem ownerIn_kept (i : SubId) (hctl : ∀ n, Control n s → ctl n)
    (hs : Live (s.record i) → OwnerIn ctl (s.record i)) : Live (t.record i) → OwnerIn ctl (t.record i) := by
  have hreplace {j : SubId} {x : SubRecord} (hx : t.record i = if i = j then x else s.record i)
      (hlive : i = j → Live x → OwnerIn ctl x) : Live (t.record i) → OwnerIn ctl (t.record i) := by
    rw [hx]
    by_cases hj : i = j
    · rw [if_pos hj]; exact hlive hj
    · rw [if_neg hj]; exact hs
  cases h with
  | records h =>
    intro hlive
    have hi := h i
    change Live _ at hlive
    have hold : Live (s.record i) := by
      have hst := hi.toSameClaims.state
      exact hlive.imp (hst.symm.trans ·) (hst.symm.trans ·)
    rcases hi.owner with ⟨ho, hp⟩ | ⟨n, ho, hn⟩ | ⟨ho, hp⟩
    · exact (hs hold).congr ho hp
    · exact .of_some ho (hctl n hn)
    · exact .of_none ho (hp hlive)
  | @claim j x p h =>
    refine hreplace (updateRecord_record j i x s) fun _ _ => ?_
    obtain ⟨n, ho, hn⟩ := h.owner
    exact .of_some ho (hctl n hn)
  | free j => exact hreplace (recordDropped_record j i s) fun _ hl => by rcases hl with hl | hl <;> cases hl
  | @close j h => exact hreplace (recordShut_record j i s) fun _ hl => by rcases hl with hl | hl <;> cases hl
  | @activate j p h hp => exact hreplace (recordActivated_record j i p s) fun hj _ => hj ▸ hs (hj ▸ .inl h)
  | @retake j p h hp => exact hreplace (recordRetaken_record j i p s) fun hj _ => hj ▸ hs (hj ▸ .inr h)
  | _ => exact hs

theorem ownersIn_kept (hctl : ∀ n, Control n s → ctl n) (hs : OwnersIn ctl s) : OwnersIn ctl t :=
  fun i => ownerIn_kept h i hctl (hs i)

theorem readersIn_kept (hatt : ∀ n, Attached n s → ctl n) (hs : ReadersIn ctl s) : ReadersIn ctl t := by
  have hreplace {i : SubId} {x : SubRecord} (hx : ∀ j, t.record j = if j = i then x else s.record j)
      (hr : ∀ n, x.readers.has n = true → ctl n) : ReadersIn ctl t := by
    intro j
    rw [hx]
    by_cases hj : j = i
    · rw [if_pos hj]; exact hr
    · rw [if_neg hj]; exact hs j
  cases h with
  | records h => exact fun i n hn => ((h i).readers n hn).elim (hs i n) (hatt n)
  | @claim i x p h =>
    exact hreplace (updateRecord_record i · x s) fun n hn => (h.readers n hn).elim (hs i n) (hatt n)
  | free i =>
    exact hreplace (recordDropped_record i · s) fun n hn => by fin_cases n <;> simp [PortSet.has] at hn
  | @close i h => exact hreplace (recordShut_record i · s) (hs i)
  | @activate i p h hp => exact hreplace (recordActivated_record i · p s) (hs i)
  | @retake i p h hp => exact hreplace (recordRetaken_record i · p s) (hs i)
  | _ => exact hs

theorem votersIn_kept (hctl : ∀ n, Control n s → ctl n) (hs : VotersIn ctl s) : VotersIn ctl t := by
  cases h with
  | seq h => exact fun n hn => (h.voters n hn).elim (hs n) (hctl n)
  | _ => exact hs

theorem spotsIn_kept (hatt : ∀ n, Attached n s → ctl n) (hs : SpotsIn ctl s) : SpotsIn ctl t := by
  cases h with
  | seq h => exact fun e he => hs e (h.spots ▸ he)
  | @spots l gone h =>
    intro e he
    have hmem : e.key ∈ s.seq.spots.map SpotEntry.key :=
      h.sublist.subset (List.mem_map_of_mem he)
    obtain ⟨x, hx, hkey⟩ := List.mem_map.mp hmem
    have hport : x.port = e.port := congrArg Prod.fst hkey
    exact hport ▸ hs x hx
  | @join e h =>
    intro x hx
    rcases List.mem_append.mp hx with hx | hx
    · exact hs x hx
    · rw [List.mem_singleton.mp hx]; exact hatt _ h.attached
  | _ => exact hs

theorem stagersIn_kept (hctl : ∀ n, Control n s → ctl n) (hs : StagersIn ctl s) : StagersIn ctl t := by
  cases h with
  | profiles h => exact fun p v hv => ((h p).staged v hv).elim (hs p v) (hctl v.port)
  | _ => exact hs

theorem armerIn_kept (m : LineNo) (hctl : ∀ n, Control n s → ctl n)
    (hs : ∀ n, (s.line m).arming.has n = true → ctl n) : ∀ n, (t.line m).arming.has n = true → ctl n := by
  cases h with
  | @line l x h =>
    intro n hn
    rw [updateLine_line] at hn
    by_cases hm : m = l
    · rw [if_pos hm] at hn; exact (h.arming n hn).elim (hm ▸ hs n) (hctl n)
    · rw [if_neg hm] at hn; exact hs n hn
  | _ => exact hs

theorem armersIn_kept (hctl : ∀ n, Control n s → ctl n) (hs : ArmersIn ctl s) : ArmersIn ctl t :=
  fun l => armerIn_kept h l hctl (hs l)

end

/-- The law of sessions along a change. -/
theorem sessionLaw_kept {s t : State} (h : Change s t) (hs : SessionLaw s) : SessionLaw t := by
  have hctl (n : Port) : Control n s → Control n t := (samePort_kept h n).control_iff.mpr
  have hatt (n : Port) : Attached n s → Attached n t := (samePort_kept h n).attached_iff.mpr
  obtain ⟨howners, hreaders, hvoters, hspots, hstagers, harmers⟩ := (sessionLaw_iff s).mp hs
  have howners' : OwnersIn (Control · t) s := fun i hl => (howners i hl).mono hctl
  exact (sessionLaw_iff t).mpr ⟨ownersIn_kept h hctl howners',
    readersIn_kept h hatt fun i n hn => hatt n (hreaders i n hn),
    votersIn_kept h hctl fun n hn => hctl n (hvoters n hn),
    spotsIn_kept h hatt fun e he => hatt _ (hspots e he),
    stagersIn_kept h hctl fun p v hv => hctl _ (hstagers p v hv),
    armersIn_kept h hctl fun l n hn => hctl n (harmers l n hn)⟩

end Sys2Proof.Machine
end

section
/-! SUPPORT. The operations of delivery, trip lines, watches, windows and records are chains of changes. -/

namespace Sys2Proof.Machine

open Sys2Proof.Safety

/-! ### Events and samples (R130 to R135, R142, R144) -/

theorem attnCondition_iff (p : PortCtl) (q : PortQueues) : attnCondition p q = true ↔
    p.session = .attached ∧ (0 < q.events.length ∨ p.watermark ≤ q.samples.length) := by
  have hevents : (!q.events.isEmpty) = true ↔ 0 < q.events.length := by cases q.events <;> simp
  simp [attnCondition, hevents, Bool.or_eq_true]

/-- The bounds of an event queue and the place of EVENTS_LOST in it (R130, R142). -/
def EventsLaw (l : List EventEntry) : Prop :=
  l.length ≤ 16 ∧ (∀ e ∈ l.dropLast, e.code ≠ .eventsLost) ∧
  (l.length = 16 → ∃ e, l.getLast? = some e ∧ e.code = .eventsLost)

/-- A queue that ends in an EVENTS_LOST entry. -/
theorem eventsLaw_lost_last {l : List EventEntry} {e : EventEntry} (hlen : l.length ≤ 15)
    (hl : ∀ x ∈ l, x.code ≠ .eventsLost) (he : e.code = .eventsLost) : EventsLaw (l ++ [e]) :=
  ⟨by simp; omega, by simpa using hl, fun _ => ⟨e, by simp, he⟩⟩

theorem offerEntry_eventsLaw {e : EventEntry} {l : List EventEntry} (h : EventsLaw l) :
    EventsLaw (offerEntry e l) := by
  obtain ⟨hlen, hdrop, hfull⟩ := h
  rw [offerEntry]
  split
  next x hx =>
    have hl : l.dropLast ++ [x] = l := List.dropLast_append_getLast? x hx
    have hlength : l.dropLast.length + 1 = l.length := by
      rw [← hl]; simp
    split
    next hlost => exact eventsLaw_lost_last (by omega) hdrop hlost
    next hlost =>
      have hall : ∀ y ∈ l, y.code ≠ .eventsLost := by
        rw [← hl]
        intro y hy
        rcases List.mem_append.mp hy with hy | hy
        · exact hdrop y hy
        · rw [List.mem_singleton.mp hy]; exact hlost
      split
      next hroom =>
        have hroom' : l.length < 15 := hroom
        refine ⟨by simp; omega, by simpa using hall, fun hfull => ?_⟩
        simp at hfull
        omega
      next =>
        have hne : l.length ≠ 16 := fun hlen16 => by
          obtain ⟨y, hy, hlosty⟩ := hfull hlen16
          exact hlost (Option.some.inj (hx.symm.trans hy) ▸ hlosty)
        exact eventsLaw_lost_last (by omega) hall rfl
  next => exact ⟨by simp, by simp, by simp⟩

theorem length_offerEntry (e : EventEntry) (l : List EventEntry) :
    l.length ≤ (offerEntry e l).length ∧ 0 < (offerEntry e l).length := by
  rw [offerEntry]
  split
  next x hx =>
    have hpos : 0 < l.length := List.length_pos_of_mem (List.mem_of_getLast? hx)
    split
    · simp; omega
    · split <;> simp
  next hx =>
    rw [List.getLast?_eq_none_iff.mp hx]
    simp

theorem queueLaw_events {p : PortCtl} {q : PortQueues} {l : List EventEntry} (hatt : p.session = .attached)
    (hl : EventsLaw q.events → EventsLaw l) (hlen : q.events.length ≤ l.length) (h : QueueLaw p q) :
    QueueLaw p { q with events := l, attn := attnCondition p { q with events := l } } := by
  obtain ⟨h1, h2, h3, h4, h5, h6, h7, h8, h9, -, -⟩ := h
  obtain ⟨h5', h8', h9'⟩ := hl ⟨h5, h8, h9⟩
  exact ⟨h1, h2, h3, h4, h5', h6, h7.trans hlen, h8', h9', by simp [hatt], attnCondition_iff _ _⟩

theorem queueLaw_samples {p : PortCtl} {q : PortQueues} (r : SampleRecord) (hatt : p.session = .attached)
    (h : QueueLaw p q) :
    QueueLaw p { placeCopy p.policy r q with attn := attnCondition p (placeCopy p.policy r q) } := by
  obtain ⟨h1, h2, h3, h4, h5, h6, h7, h8, h9, -, -⟩ := h
  obtain ⟨hev, hun⟩ := placeCopy_events p.policy r q
  have hsat : saturate Config.lostLimit q.lost ≤ 255 := by
    rw [saturate]
    split
    next hlt => exact hlt
    next => exact le_rfl
  have hcopy : (placeCopy p.policy r q).samples.length ≤ 64 ∧ (placeCopy p.policy r q).sampleUnacked ≤ 7 ∧
      (placeCopy p.policy r q).sampleUnacked ≤ (placeCopy p.policy r q).samples.length ∧
      (placeCopy p.policy r q).lost ≤ 255 := by
    rw [placeCopy.eq_def]
    split
    next hroom =>
      have hroom' : q.samples.length < 64 := hroom
      exact ⟨by simpa using hroom', h2, by simp; omega, Nat.zero_le _⟩
    next hfull =>
      have hfull' : ¬ q.samples.length < 64 := hfull
      cases p.policy with
      | keepOldest => exact ⟨h1, h2, h3, hsat⟩
      | keepNewest => exact ⟨by simp; omega, by simp; omega, by simp; omega, Nat.zero_le _⟩
  obtain ⟨c1, c2, c3, c4⟩ := hcopy
  refine ⟨c1, c2, c3, c4, ?_, ?_, ?_, ?_, ?_, by simp [hatt], attnCondition_iff _ _⟩
  · rw [hev]; exact h5
  · rw [hun]; exact h6
  · rw [hun, hev]; exact h7
  · rw [hev]; exact h8
  · rw [hev]; exact h9

theorem placeEvent_changes (a : PortSet) (e : EventEntry) (n : Port) (s : State) :
    Changes s (placeEvent a e n s) := by
  rw [placeEvent]
  split
  next h =>
    simp only [Bool.and_eq_true, attached, beq_iff_eq] at h
    rw [judgeAttn_setQueues]
    exact .single (.queues h.1.2 (queueLaw_events h.1.2 offerEntry_eventsLaw (length_offerEntry e _).1))
  next => exact .refl

theorem raise_changes (a : PortSet) (c : EventCode) (b : Byte) (d : BitVec 16) (s : State) :
    Changes s (raise a c b d s) :=
  ((placeEvent_changes a _ 0 s).trans (placeEvent_changes a _ 1 _)).trans (placeEvent_changes a _ 2 _)

theorem afterEvents_changes (l : List Announced) (s : State) : Changes s (afterEvents l s) := by
  induction l generalizing s with
  | nil => rw [afterEvents_nil]
  | cons a l ih =>
    have h : afterEvents (a :: l) s = afterEvents l (raise a.audience a.code a.subject a.detail s) := by
      rw [raise_eq, afterEvents_append]; rfl
    rw [h]
    exact (raise_changes _ _ _ _ s).trans (ih _)

theorem placeSample_changes (r : SampleRecord) (n : Port) (s : State) : Changes s (placeSample r n s) := by
  rw [placeSample_eq]
  split
  next h =>
    rw [attached, beq_iff_eq] at h
    exact .single (.queues h (queueLaw_samples r h))
  next => exact .refl

theorem placeSamples_changes (readers : PortSet) (r : SampleRecord) (s : State) :
    Changes s (placeSamples readers r s) := by
  have one (n : Port) (s : State) : Changes s (if readers.has n then placeSample r n s else s) := by
    split
    · exact placeSample_changes r n s
    · exact .refl
  exact ((one 0 s).trans (one 1 _)).trans (one 2 _)

theorem deliverSub_changes (i : SubId) (r : SampleRecord) (s : State) : Changes s (deliverSub i r s) :=
  (Relation.ReflTransGen.single (.latest i _)).trans (placeSamples_changes _ r _)

/-! ### Trip lines (R115 to R126) -/

theorem saturate_le (limit n : Nat) : saturate limit n ≤ limit := by
  rw [saturate]
  split <;> omega

theorem within_empty (a : PortSet) : Within PortSet.empty a := fun n hn => by simp at hn

theorem tripLine_changes {l : LineNo} {arming : PortSet} {s : State} (cause id : Byte)
    (hmode : LineLaw (s.line l) (s.input (lineInput l)).mode → (s.input (lineInput l)).mode = .trip)
    (harming : ∀ n, arming.has n = true → (s.line l).arming.has n = true ∨ Control n s) :
    Changes s (tripLine l arming cause id s) := by
  refine (Relation.ReflTransGen.single (.line ⟨fun h => ?_, ?_, harming⟩)).trans (raise_changes _ _ _ _ _)
  · exact ⟨fun _ => nofun, nofun, within_empty _, fun h => absurd rfl h, fun _ => hmode h, saturate_le _ _⟩
  · exact fun h => nomatch h

theorem entryReport_changes (l : LineNo) (i : SubId) (s : State) : Changes s (entryReport l i s) := by
  rw [entryReport]
  split
  next => exact .refl
  next hst =>
    exact tripLine_changes _ _ (fun h => h.2.2.2.2.1 (by simp [hst])) fun n hn => .inl hn
  next hst =>
    refine (Relation.ReflTransGen.single (.line ⟨fun h => ?_, fun h => ?_, fun n hn => .inl hn⟩)).trans
      (raise_changes _ _ _ _ _)
    · obtain ⟨h1, h2, -, -, h5, h6⟩ := h
      exact ⟨h1, h2, within_empty _, fun _ => rfl, h5, h6⟩
    · exact .inl h

theorem judgeRelease_changes (l : LineNo) (cause low : Byte) (s : State) :
    Changes s (judgeRelease l cause low s) := by
  rw [judgeRelease]
  split
  next h =>
    obtain ⟨hst, harming, hack, halarms⟩ := (releaseHolds_iff l s).mp h
    refine (Relation.ReflTransGen.single (.line ⟨fun h => ?_, fun _ => .inr halarms, fun n hn => .inl hn⟩)).trans
      (raise_changes _ _ _ _ _)
    obtain ⟨-, -, -, -, h5, h6⟩ := h
    exact ⟨fun h => absurd h harming, nofun, within_empty _, fun _ => rfl, fun _ => h5 (by simp [hst]), h6⟩
  next => exact .refl

theorem exitReport_changes (l : LineNo) (i : SubId) (s : State) : Changes s (exitReport l i s) :=
  judgeRelease_changes l _ _ s

theorem within_drop {a b : PortSet} (n : Port) (h : Within a b) : Within (a.drop n) (b.drop n) := by
  intro m hm
  simp only [PortSet.has_drop, Bool.and_eq_true] at hm ⊢
  exact ⟨hm.1, h m hm.2⟩

theorem has_of_drop {a : PortSet} {n m : Port} (h : (a.drop n).has m = true) : a.has m = true := by
  simp only [PortSet.has_drop, Bool.and_eq_true] at h
  exact h.2

theorem empty_drop (n : Port) : PortSet.drop ⟨false, false, false⟩ n = ⟨false, false, false⟩ := by
  fin_cases n <;> rfl

theorem leaveArming_changes {n : Port} {l : LineNo} {s : State} (h : (s.line l).state ≠ .tripped) :
    Changes s (leaveArming n l s) := by
  refine .single (.line ⟨fun ⟨h1, h2, h3, h4, h5, h6⟩ => ?_, fun harmed => .inl ?_, fun m hm => .inl (has_of_drop hm)⟩)
  · have hack := h4 h
    by_cases he : ((s.line l).arming.drop n).isEmpty = true
    · have hempty : (s.line l).arming.drop n = ⟨false, false, false⟩ := (PortSet.isEmpty_iff _).mp he
      simp only [he, if_true, hack, empty_drop]
      exact ⟨fun _ => nofun, fun _ => hempty, within_empty _, fun _ => rfl, fun hne => absurd rfl hne, h6⟩
    · have hne : (s.line l).arming.drop n ≠ ⟨false, false, false⟩ := fun e => he ((PortSet.isEmpty_iff _).mpr e)
      simp only [he, Bool.false_eq_true, if_false, hack, empty_drop]
      exact ⟨fun e => absurd e hne, fun hd => by rw [h2 hd, empty_drop], within_empty _, fun _ => rfl, h5, h6⟩
  · simp only at harmed
    split at harmed
    · cases harmed
    · exact harmed

theorem add_ne_empty (a : PortSet) (n : Port) : a.add n ≠ ⟨false, false, false⟩ := by
  intro h
  have hn : (a.add n).has n = true := by simp
  rw [h] at hn
  fin_cases n <;> simp [PortSet.has] at hn

theorem has_add_or {a : PortSet} {n m : Port} (h : (a.add n).has m = true) : m = n ∨ a.has m = true := by
  simpa using h

theorem armLine_changes {n : Port} {l : LineNo} {s : State} (hm : (s.input (lineInput l)).mode = .trip)
    (hn : Control n s) : Changes s (armLine n l s) := by
  have hadd (a : PortSet) (m : Port) (h : (a.add n).has m = true) : a.has m = true ∨ Control m s :=
    (has_add_or h).elim (fun e => .inr (e ▸ hn)) .inl
  have hnew (m : Port) (h : (PortSet.empty.add n).has m = true) :
      (s.line l).arming.has m = true ∨ Control m s :=
    .inr ((hadd _ m h).resolve_left (by simp))
  have hjoin (hst : (s.line l).state ≠ .disarmed) :
      Changes s (updateLine l { s.line l with arming := (s.line l).arming.add n } s) :=
    .single (.line ⟨fun ⟨_, _, h3, h4, h5, h6⟩ => ⟨fun e => absurd e (add_ne_empty _ _),
      fun e => absurd e hst, fun m hm => by simp [h3 m hm], h4, h5, h6⟩, fun h => .inl h, hadd _⟩)
  rw [armLine]
  split
  next hst =>
    split
    next hempty =>
      refine .single (.line ⟨fun ⟨_, h2, _, h4, _, h6⟩ => ?_, fun _ => .inr hempty, hnew⟩)
      have hack := h4 (by simp [hst])
      exact ⟨fun e => absurd e (add_ne_empty _ _), nofun, hack ▸ within_empty _, fun _ => hack, fun _ => hm, h6⟩
    next => exact tripLine_changes _ _ (fun _ => hm) hnew
  next hst => exact hjoin (by simp [hst])
  next hst => exact hjoin (by simp [hst])

theorem acknowledge_changes {n : Port} {l : LineNo} {s : State} (hn : (s.line l).arming.has n = true)
    (hst : (s.line l).state = .tripped) :
    Changes s (updateLine l { s.line l with ack := (s.line l).ack.add n } s) :=
  .single (.line ⟨fun ⟨h1, h2, h3, _, h5, h6⟩ => ⟨h1, h2,
    fun _ hm => (has_add_or hm).elim (fun e => e ▸ hn) (h3 _), fun h => absurd hst h, h5, h6⟩,
    fun h => .inl h, fun _ hm => .inl hm⟩)

theorem tripLineSessionEnd_changes (n : Port) (l : LineNo) (s : State) :
    Changes s (tripLineSessionEnd n l s) := by
  rw [tripLineSessionEnd]
  split
  next => exact .refl
  next hn =>
    split
    next => exact .refl
    next hst => exact leaveArming_changes (by simp [hst])
    next hst =>
      refine (Relation.ReflTransGen.single (.line ⟨fun ⟨_, _, h3, _, h5, h6⟩ => ?_, fun h => .inl h,
        fun m hm => .inl (has_of_drop hm)⟩)).trans (judgeRelease_changes _ _ _ _)
      exact ⟨fun _ => by simp [hst], fun h => by simp [hst] at h, within_drop n h3,
        fun h => absurd hst h, h5, h6⟩

theorem tripSessionEnd_changes (n : Port) (s : State) : Changes s (tripSessionEnd n s) :=
  Changes.foldl (fun s l => tripLineSessionEnd_changes n l s) lineNos s

/-! ### Watches (R102 to R112) -/

theorem watchEvent_changes (i : SubId) (c : EventCode) (d : BitVec 16) (s : State) :
    Changes s (watchEvent i c d s) := raise_changes _ _ _ _ s

theorem watchEvents_changes (i : SubId) (seq : BitVec 16) (l : List EventCode) (s : State) :
    Changes s (watchEvents i seq l s) :=
  Changes.foldl (fun s c => watchEvent_changes i c _ s) l s

theorem watchReport_changes (i : SubId) (trip : Option LineNo) (r : Option Report) (s : State) :
    Changes s (watchReport i trip r s) := by
  rw [watchReport.eq_def]
  split
  · exact entryReport_changes _ _ s
  · exact exitReport_changes _ _ s
  · exact .refl
  · exact .refl

theorem exitIfAlarm_changes (i : SubId) (w : Option Watch) (s : State) : Changes s (exitIfAlarm i w s) := by
  obtain hnone | ⟨l, hl⟩ := exitIfAlarm_cases i w
  · rw [hnone]
  · rw [hl]; exact exitReport_changes l i s

/-- A watch that enters an alarm state reports ENTRY (R108). -/
theorem moveWatch_alarm {w : Watch} {v : Int} (h : (moveWatch w v).state.alarm = true) :
    w.state.alarm = true ∨ (moveWatch w v).report = some .entry := by
  revert h
  rw [moveWatch.eq_def]
  cases w.state <;> dsimp only [riseHigh, riseLow] <;> split_ifs <;> simp [WatchState.alarm]

/-- After an ENTRY report the line is not ARMED. -/
theorem entryReport_not_armed (l : LineNo) (i : SubId) (s : State) :
    ((entryReport l i s).line l).state ≠ .armed := by
  rw [entryReport]
  split
  next hst => simp [hst]
  next hst =>
    rw [tripLine_eq, afterEvents_line, updateLine_line, if_pos rfl]
    exact nofun
  next hst =>
    rw [raise_eq, afterEvents_line, updateLine_line, if_pos rfl]
    simp [hst]

/-- An ENTRY report and the replacement of a watch change the state apart from each other. -/
theorem entryReport_updateWatch (l : LineNo) (i j : SubId) (w : Option Watch) (s : State) :
    entryReport l i (updateWatch j w s) = updateWatch j w (entryReport l i s) := by
  have hline : (updateWatch j w s).line l = s.line l := rfl
  simp only [entryReport, hline]
  cases (s.line l).state
  · rfl
  · simp only [tripLine_eq]; rfl
  · simp only [raise_eq]; rfl

theorem watchEvents_updateWatch (i j : SubId) (seq : BitVec 16) (l : List EventCode) (w : Option Watch)
    (s : State) : watchEvents i seq l (updateWatch j w s) = updateWatch j w (watchEvents i seq l s) := by
  induction l generalizing s with
  | nil => rfl
  | cons c l ih =>
    have h : watchEvent i c (if c = .watchClear then clearNormal else seq) (updateWatch j w s) =
        updateWatch j w (watchEvent i c (if c = .watchClear then clearNormal else seq) s) := by
      simp only [watchEvent, raise_eq]; rfl
    simp only [watchEvents, List.foldl_cons, h]
    exact ih _

theorem watchEvents_eq (i : SubId) (seq : BitVec 16) (l : List EventCode) (s : State) :
    watchEvents i seq l s = afterEvents (l.map fun c =>
      ⟨audienceOf (s.record i), c, idByte i, if c = .watchClear then clearNormal else seq⟩) s := by
  induction l generalizing s with
  | nil => exact (afterEvents_nil s).symm
  | cons c l ih =>
    have h : watchEvents i seq (c :: l) s =
        watchEvents i seq l (watchEvent i c (if c = .watchClear then clearNormal else seq) s) := rfl
    rw [h, ih, watchEvent, raise_eq, SubRecord.audience_eq, afterEvents_append]
    rfl

/-- The watch of a record that is evaluated, with its events and its report. -/
theorem evaluateWatch_changes {i : SubId} {w : Watch} {s : State} (seq : BitVec 16) (v : Int)
    (hw : s.watch i = some w) :
    Changes s (watchReport i w.part.trip (moveWatch w v).report
      (watchEvents i seq (moveWatch w v).events
        (updateWatch i (some { w with state := (moveWatch w v).state, count := (moveWatch w v).count }) s))) := by
  by_cases hentry : (moveWatch w v).report = some .entry ∧ w.part.trip.isSome = true
  · obtain ⟨hrep, hsome⟩ := hentry
    obtain ⟨l, hl⟩ := Option.isSome_iff_exists.mp hsome
    rw [hrep, hl, watchReport, watchEvents_updateWatch, entryReport_updateWatch]
    refine ((watchEvents_changes i seq _ s).trans (entryReport_changes l i _)).tail (.watch (w := w) ?_ ?_)
    · have hwtu : (entryReport l i (watchEvents i seq (moveWatch w v).events s)).wtu = s.wtu := by
        rw [watchEvents_eq, entryReport]
        split
        · rfl
        · rw [tripLine_eq]; rfl
        · rw [raise_eq]; rfl
      exact (congrArg (·.watches[i]) hwtu).trans hw
    · refine ⟨rfl, rfl, rfl, fun m hin => .inr ?_⟩
      have hm : m = l := by
        simp only [inAlarmSet, hl, Bool.and_eq_true, beq_iff_eq, Option.some.injEq] at hin
        exact hin.2.symm
      rw [hm]
      exact entryReport_not_armed l i _
  · refine (Relation.ReflTransGen.single (.watch hw ⟨rfl, rfl, rfl, fun m hin => .inl ?_⟩)).trans
      ((watchEvents_changes _ _ _ _).trans (watchReport_changes _ _ _ _))
    simp only [inAlarmSet, Bool.and_eq_true, beq_iff_eq] at hin ⊢
    obtain ⟨⟨hfrozen, halarm⟩, htrip⟩ := hin
    refine ⟨⟨hfrozen, (moveWatch_alarm halarm).resolve_right fun hrep => hentry ⟨hrep, ?_⟩⟩, htrip⟩
    rw [htrip]; rfl

theorem handleRecord_changes (i : SubId) (r : SampleRecord) (s : State) : Changes s (handleRecord i r s) := by
  rw [handleRecord]
  split
  next => exact deliverSub_changes i r s
  next w hw =>
    split
    next => exact deliverSub_changes i r s
    next =>
      split
      next => exact deliverSub_changes i _ s
      next v _ => exact (evaluateWatch_changes r.sequence v.toInt hw).trans (deliverSub_changes i _ _)

/-! ### Windows (R83 to R89) -/

theorem RecordChange.sequence (s : State) (r : SubRecord) (x : BitVec 16) :
    RecordChange s r { r with sequence := x } :=
  ⟨⟨rfl, rfl, rfl, rfl⟩, .inl ⟨rfl, rfl⟩, fun _ h => .inl h⟩

theorem RecordChange.refl (s : State) (r : SubRecord) : RecordChange s r r :=
  ⟨⟨rfl, rfl, rfl, rfl⟩, .inl ⟨rfl, rfl⟩, fun _ h => .inl h⟩

/-- One record changed in what its claims do not see. -/
theorem putRecord_change {s : State} {i : SubId} {x : SubRecord} (h : RecordChange s (s.record i) x) :
    Change s (s.withSubt { s.subt with records := put s.subt.records i x }) := by
  refine .records fun j => ?_
  rw [put_getElem]
  by_cases hj : j = i
  · rw [if_pos hj, hj]; exact h
  · rw [if_neg hj]; exact .refl _ _

theorem raiseSequence_changes (i : SubId) (s : State) : Changes s (raiseSequence i s) :=
  .single (putRecord_change (.sequence s _ _))

theorem WindowChange.restart (w : Window) : WindowChange w w.restart :=
  ⟨rfl, rfl, rfl, fun _ => ⟨by cases h : w.average <;> simp [Window.restart, h, Average.count], rfl,
    by simp [Window.restart]⟩⟩

theorem Window.take_kept (w : Window) (e : DueEnd) : (w.take e).generation = w.generation ∧
    (w.take e).average = w.average ∧ (w.take e).profile = w.profile := by
  cases e <;> exact ⟨rfl, rfl, rfl⟩

/-- A due frame that is not the last advances the position by what is folded or missed. -/
theorem WindowChange.take {w : Window} (e : DueEnd) (h : w.position + 1 ≠ w.average.count) :
    WindowChange w { w.take e with position := w.position + 1 } := by
  obtain ⟨hgen, havg, hprof⟩ := w.take_kept e
  refine ⟨hgen, havg, hprof, fun ⟨hpos, hsum, hcode⟩ => ?_⟩
  cases e with
  | folded code =>
    have hlt := code.isLt
    refine ⟨?_, ?_, ?_⟩ <;> simp only [Window.take] <;> omega
  | faulted => refine ⟨?_, ?_, ?_⟩ <;> simp only [Window.take] <;> omega
  | missed => refine ⟨?_, ?_, ?_⟩ <;> simp only [Window.take] <;> omega

theorem reportDue_changes (e : DueEnd) (frame : FrameNo) (d : Due) (s : State) :
    Changes s (reportDue e frame d s) := by
  obtain ⟨-, h⟩ | ⟨w, hw, -, hne, h⟩ | ⟨w, hw, -, -, h⟩ := reportDue_cases e frame d s
  · rw [h]
  · rw [h]; exact .single (.window hw (.take e hne))
  · rw [h]
    have hrestart : (w.take e).restart = w.restart := by
      obtain ⟨hgen, havg, hprof⟩ := w.take_kept e
      simp only [Window.restart, hgen, havg, hprof]
    simp only [closeWindow, hrestart]
    exact ((Relation.ReflTransGen.single (.window hw (.restart w))).trans
      (handleRecord_changes _ _ _)).trans (raiseSequence_changes _ _)

theorem reportAll_changes (e : DueEnd) (frame : FrameNo) (l : List Due) (s : State) :
    Changes s (reportAll e frame l s) :=
  Changes.foldl (fun s d => reportDue_changes e frame d s) l s

/-! ### Records (R12 to R14, R20 to R26) -/

theorem freeRecord_changes (i : SubId) (s : State) : Changes s (freeRecord i s) := by
  rw [freeRecord_eq]
  exact ((Relation.ReflTransGen.single (.free i)).trans (afterEvents_changes _ _)).trans
    (exitIfAlarm_changes i _ _)

theorem closeActive_changes {i : SubId} {s : State} (h : (s.record i).state = .active) :
    Changes s (closeActive i s) := closeActive_shut i s ▸ .single (.close h)

theorem releaseRecord_changes (i : SubId) (s : State) : Changes s (releaseRecord i s) := by
  rw [releaseRecord]
  split
  next => exact .refl
  next => exact .refl
  next => exact freeRecord_changes i s
  next h =>
    split
    · exact freeRecord_changes i s
    · exact closeActive_changes h

theorem freeClosing_changes (s : State) : Changes s (freeClosing s) := by
  refine Changes.foldl (fun s i => ?_) subIds s
  split
  · exact freeRecord_changes i s
  · exact .refl

/-- An ACTIVE record takes its staged change: the record with its window and watch, then WATCH_CLEAR and the EXIT
report of a watch that has left an alarm state (R111). -/
theorem takeStaged_eq (i : SubId) (p : Params) (s : State) :
    takeStaged i p s =
      if watchPartOf (s.record i).current = p.watch then recordRetaken i p s
      else match s.watch i with
        | none => recordRetaken i p s
        | some v =>
          if v.state.alarm then
            exitIfAlarm i (some v) (watchEvent i .watchClear clearReconfigured (recordRetaken i p s))
          else recordRetaken i p s := by
  have hwatch : (windowRetaken i p s).watch i = s.watch i := rfl
  have htake : takeStaged i p s = reconfigureWatch i (watchPartOf (s.record i).current) p.watch
    ((s.record i).generation + 1) (windowRetaken i p s) := rfl
  rw [htake, recordRetaken_eq, reconfigureWatch, restartWatch, hwatch]
  split
  next => rfl
  next => cases s.watch i <;> rfl

end Sys2Proof.Machine
end

section
/-! SUPPORT. Promotion, session ends of records, the spot queue, frames and the converter: exact forms of the
operations on the spot queue, and every operation as a chain of changes. -/

namespace Sys2Proof.Machine

open Sys2Proof.Safety

/-! ### Promotion and session ends of records (R20 to R26) -/

theorem takeStaged_changes {i : SubId} {p : Params} {s : State} (h : (s.record i).state = .active)
    (hp : (s.record i).staged = some p) : Changes s (takeStaged i p s) := by
  have hretake : Changes s (recordRetaken i p s) := .single (.retake h hp)
  rw [takeStaged_eq]
  split
  · exact hretake
  · split
    · exact hretake
    · split
      · exact (hretake.trans (watchEvent_changes _ _ _ _)).trans (exitIfAlarm_changes _ _ _)
      · exact hretake

theorem promoteRecord_changes (i : SubId) (s : State) : Changes s (promoteRecord i s) := by
  rw [promoteRecord]
  split
  next p hst hp => exact .single (.activate hst hp)
  next p hst hp => exact takeStaged_changes hst hp
  next => exact freeRecord_changes i s
  next => exact .refl
  next => exact .refl
  next => exact .refl

theorem promoteAll_changes (s : State) : Changes s (promoteAll s) :=
  Changes.foldl (fun s i => promoteRecord_changes i s) subIds s

theorem clearOwner_record (i j : SubId) (s : State) :
    (clearOwner i s).record j = if j = i then { s.record i with owner := none } else s.record j :=
  put_getElem _ _ _ _

theorem recordMoved_clearOwner (i : SubId) (x : SubRecord) (s : State) :
    recordMoved i x (clearOwner i s) = recordMoved i x s := by
  have hrec : (clearOwner i s).record i = { s.record i with owner := none } :=
    (clearOwner_record i i s).trans (if_pos rfl)
  have hrecords : put (clearOwner i s).subt.records i x = put s.subt.records i x := put_put _ _ _ _
  simp only [recordMoved, hrec, hrecords]
  rfl

theorem recordDropped_clearOwner (i : SubId) (s : State) :
    recordDropped i (clearOwner i s) = recordDropped i s := by
  rw [recordDropped, recordMoved_clearOwner]
  rfl

/-- A record freed without its owner differs in the audience of its SUB_ENDED alone. -/
theorem freeRecord_clearOwner (i : SubId) (s : State) :
    freeRecord i (clearOwner i s) = exitIfAlarm i (s.watch i)
      (afterEvents [subEndedOf i { s.record i with owner := none }] (recordDropped i s)) := by
  rw [freeRecord_eq, recordFreed, recordDropped_clearOwner, clearOwner_record, if_pos rfl]
  rfl

theorem recordClosed_clearOwner (i : SubId) (s : State) :
    recordClosed i (clearOwner i s) = clearOwner i (recordClosed i s) := by
  have hrec : (clearOwner i s).record i = { s.record i with owner := none } :=
    (clearOwner_record i i s).trans (if_pos rfl)
  have hclosed : (recordClosed i s).record i = { s.record i with state := .closing, staged := none } :=
    recordMoved_same _ _ _
  have hright : clearOwner i (recordClosed i s) = (recordClosed i s).withSubt { (recordClosed i s).subt with
      records := put (recordClosed i s).subt.records i
        { s.record i with state := .closing, staged := none, owner := none } } := by
    rw [clearOwner, hclosed]
  have hput : put (recordMoved i { s.record i with state := .closing, staged := none } s).subt.records i
      { s.record i with state := .closing, staged := none, owner := none } =
      put s.subt.records i { s.record i with state := .closing, staged := none, owner := none } := put_put _ _ _ _
  rw [hright, recordClosed, recordMoved_clearOwner, hrec]
  simp only [recordClosed, State.withSubt, State.setWindow, State.withAsu, hput]
  rfl

theorem closeActive_clearOwner (i : SubId) (s : State) :
    closeActive i (clearOwner i s) = clearOwner i (closeActive i s) := by
  have hcomm (s : State) : freezeWatch i (clearOwner i s) = clearOwner i (freezeWatch i s) := by
    have hwatch : (clearOwner i s).watch i = s.watch i := rfl
    rw [freezeWatch, freezeWatch, hwatch]
    split <;> rfl
  rw [closeActive_eq, closeActive_eq, recordClosed_clearOwner, hcomm]

/-- The owner of a record that persists, or is neither STAGED nor ACTIVE, may go. -/
theorem clearOwner_changes {i : SubId} {s : State}
    (h : Live (s.record i) → (s.record i).persist = true) : Changes s (clearOwner i s) :=
  .single (putRecord_change ⟨⟨rfl, rfl, rfl, rfl⟩, .inr (.inr ⟨rfl, h⟩), fun _ h => .inl h⟩)

theorem recordSessionEnd_changes (n : Port) (i : SubId) (s : State) :
    Changes s (recordSessionEnd n i s) := by
  rw [recordSessionEnd]
  split
  next => exact .refl
  next =>
    split
    next hpersist =>
      have hclear : Changes s (clearOwner i s) := clearOwner_changes fun _ => hpersist
      split
      · exact hclear.trans (raise_changes _ _ _ _ _)
      · exact hclear.trans (raise_changes _ _ _ _ _)
      · exact hclear
      · exact hclear
    next =>
      have hrec : (clearOwner i s).record i = { s.record i with owner := none } :=
        (clearOwner_record i i s).trans (if_pos rfl)
      have hfree : Changes s (freeRecord i (clearOwner i s)) := by
        rw [freeRecord_clearOwner]
        exact ((Relation.ReflTransGen.single (.free i)).trans (afterEvents_changes _ _)).trans
          (exitIfAlarm_changes _ _ _)
      rw [releaseRecord, hrec]
      split
      next hst =>
        have hfree : (s.record i).state = .free := hst
        exact clearOwner_changes fun hl => by rcases hl with hl | hl <;> cases hfree.symm.trans hl
      next hst =>
        have hclosing : (s.record i).state = .closing := hst
        exact clearOwner_changes fun hl => by rcases hl with hl | hl <;> cases hclosing.symm.trans hl
      next => exact hfree
      next hst =>
        split
        · exact hfree
        · rw [closeActive_clearOwner]
          refine (closeActive_changes hst).trans (clearOwner_changes fun hl => ?_)
          rw [closeActive_record] at hl
          rcases hl with hl | hl <;> cases hl

theorem dropReader_changes (n : Port) (s : State) : Changes s (dropReader n s) := by
  refine .single (.records fun i => ?_)
  rw [tabulate_getElem]
  exact ⟨⟨rfl, rfl, rfl, rfl⟩, .inl ⟨rfl, rfl⟩, fun m hm => .inl (has_of_drop hm)⟩

theorem subSessionEnd_changes (n : Port) (s : State) : Changes s (subSessionEnd n s) :=
  (dropReader_changes n s).trans (Changes.foldl (fun s i => recordSessionEnd_changes n i s) subIds _)

/-! ### Profiles (R93 to R97) -/

theorem activateProfiles_changes (s : State) : Changes s (activateProfiles s) := by
  refine .single (.profiles fun p => ?_)
  rw [tabulate_getElem]
  refine ⟨fun _ h => by rw [h]; rfl, fun v hv => ?_, fun _ h => ?_⟩
  · rw [Profile.activate] at hv
    split at hv
    · exact .inl hv
    · cases hv
  · rw [Profile.activate, h]; exact h

theorem activateProfiles_staged (p : ProfileNo) (s : State) :
    ((activateProfiles s).profile p).staged = none := by
  rw [activateProfiles_profile, activated]
  split
  next h => exact h
  next => rfl

theorem Profile.forget_staged {n : Port} {p : Profile} {v : StagedValue} (h : (p.forget n).staged = some v) :
    p.staged = some v ∧ v.port ≠ n := by
  rw [Profile.forget] at h
  split at h
  next hnone => rw [hnone] at h; cases h
  next w hw =>
    split at h
    · cases h
    next hne => exact ⟨h, Option.some.inj (hw.symm.trans h) ▸ hne⟩

theorem profileSessionEnd_changes (n : Port) (s : State) : Changes s (profileSessionEnd n s) := by
  refine .single (.profiles fun p => ?_)
  rw [tabulate_getElem]
  refine ⟨fun _ h => by rw [h]; rfl, fun v hv => .inl (Profile.forget_staged hv).1, fun _ h => ?_⟩
  rw [Profile.forget, h]; exact h

/-! ### The spot queue (R66 to R78) -/

theorem spotsLeft_nil (l : List SpotEntry) (s : State) : spotsLeft l [] s = setSpots l s := by
  have h : (tabulate fun k => { s.input k with
      useCount := (s.input k).useCount - (([] : List SpotEntry).filter fun e => decide (e.input = k)).length }) =
      s.isel.inputs := table_ext fun k => by rw [tabulate_getElem]; rfl
  rw [spotsLeft, h]
  rfl

theorem SpotsChange.of_keys {q l : List SpotEntry} (h : l.map SpotEntry.key = q.map SpotEntry.key) :
    SpotsChange q l [] := by
  refine ⟨h ▸ List.Sublist.refl _, ?_⟩
  have hin := congrArg (List.map fun x : Port × Byte × InputNo => x.2.2) h
  rw [List.map_map, List.map_map] at hin
  rw [List.append_nil]
  exact List.Perm.of_eq hin

/-- Entries placed otherwise, the queue keeping its order. -/
theorem setSpots_changes {l : List SpotEntry} {s : State}
    (h : l.map SpotEntry.key = s.seq.spots.map SpotEntry.key) : Changes s (setSpots l s) :=
  spotsLeft_nil l s ▸ .single (.spots (.of_keys h))

theorem map_key_of_map {f : SpotEntry → SpotEntry} (hf : ∀ e, (f e).key = e.key) (l : List SpotEntry) :
    (l.map f).map SpotEntry.key = l.map SpotEntry.key := by
  rw [List.map_map]
  exact List.map_congr_left fun e _ => hf e

theorem returnSpots_changes (s : State) : Changes s (returnSpots s) := by
  refine setSpots_changes (map_key_of_map (fun e => ?_) _)
  rw [returnEntry]
  split <;> rfl

/-- The use counts of a list of entries fall one by one. -/
theorem foldl_useDown (gone : List SpotEntry) (s : State) :
    gone.foldl (fun s e => useDown e.input s) s = spotsLeft s.seq.spots gone s := by
  induction gone generalizing s with
  | nil => rw [spotsLeft_nil]; rfl
  | cons e gone ih =>
    have hspots : (useDown e.input s).seq.spots = s.seq.spots := rfl
    rw [List.foldl_cons, ih, hspots]
    have hinputs : (spotsLeft s.seq.spots gone (useDown e.input s)).isel.inputs =
        (spotsLeft s.seq.spots (e :: gone) s).isel.inputs := by
      refine table_ext fun k => ?_
      change (spotsLeft s.seq.spots gone (useDown e.input s)).input k =
        (spotsLeft s.seq.spots (e :: gone) s).input k
      rw [spotsLeft_input, spotsLeft_input, useDown_input]
      by_cases hk : k = e.input
      · subst hk
        simp only [if_true, List.filter_cons, decide_true, List.length_cons]
        congr 1
        omega
      · have hk' : ¬ e.input = k := fun h => hk h.symm
        simp [hk, hk']
    calc spotsLeft s.seq.spots gone (useDown e.input s)
        = { spotsLeft s.seq.spots (e :: gone) s with isel := { s.isel with
            inputs := (spotsLeft s.seq.spots gone (useDown e.input s)).isel.inputs } } := rfl
      _ = spotsLeft s.seq.spots (e :: gone) s := by rw [hinputs]; rfl

theorem spotsLeft_setSpots (l gone : List SpotEntry) (s : State) :
    spotsLeft l gone (setSpots l s) = spotsLeft l gone s := rfl

/-- The event of an entry that expires (R69). -/
def spotExpired (e : SpotEntry) : Announced :=
  ⟨PortSet.empty.add e.port, .spotExpired, e.tag, BitVec.ofNat 16 e.input.val⟩

theorem expireEntry_eq (e : SpotEntry) (s : State) :
    expireEntry e s = afterEvents [spotExpired e] (useDown e.input s) := by
  rw [expireEntry, raise_eq, causeDetail_input]
  rfl

theorem foldl_expireEntry (gone : List SpotEntry) (s : State) :
    gone.foldl (fun s e => expireEntry e s) s =
      afterEvents (gone.map spotExpired) (gone.foldl (fun s e => useDown e.input s) s) := by
  have hcomm (l : List Announced) (gone : List SpotEntry) (s : State) :
      gone.foldl (fun s e => useDown e.input s) (afterEvents l s) =
        afterEvents l (gone.foldl (fun s e => useDown e.input s) s) := by
    rw [foldl_useDown, foldl_useDown]
    rfl
  induction gone generalizing s with
  | nil => exact (afterEvents_nil s).symm
  | cons e gone ih =>
    rw [List.foldl_cons, ih, expireEntry_eq, hcomm, afterEvents_append]
    rfl

/-- Does this entry, as it stands before the boundary, expire at it (R69)? -/
def SpotEntry.expiring (e : SpotEntry) : Bool :=
  decide (e.place = .waiting) && e.considered && decide (e.remaining ≤ 1)

/-- The spot queue after expiry (R69). -/
def spotsConsidered (l : List SpotEntry) : List SpotEntry :=
  l.filterMap fun e =>
    if e.place = .waiting then
      if e.considered = false then some { e with considered := true }
      else if e.remaining ≤ 1 then none else some { e with remaining := e.remaining - 1 }
    else some e

theorem waiting_iff (e : SpotEntry) : e.waiting = true ↔ e.place = .waiting := by
  rw [SpotEntry.waiting, beq_iff_eq]

theorem expires_countDown (e : SpotEntry) : expires (countDown e) = e.expiring := by
  rw [Bool.eq_iff_iff]
  by_cases h : e.waiting = true ∧ e.considered = true
  · have hp := (waiting_iff e).mp h.1
    simp [countDown, expires, SpotEntry.expiring, h, hp, SpotEntry.waiting]
    omega
  · have hc : countDown e = e := if_neg (by simpa [Bool.and_eq_true] using h)
    rw [hc]
    simp only [expires, SpotEntry.expiring, Bool.and_eq_true, decide_eq_true_eq, waiting_iff] at h ⊢
    tauto

theorem expired_eq (l : List SpotEntry) :
    (l.map countDown).filter expires = (l.filter SpotEntry.expiring).map countDown := by
  rw [List.filter_map]
  have h : expires ∘ countDown = SpotEntry.expiring := funext expires_countDown
  rw [h]

theorem considered_eq (l : List SpotEntry) :
    ((l.map countDown).filter fun e => !expires e).map consider = spotsConsidered l := by
  induction l with
  | nil => rfl
  | cons e l ih =>
    rw [List.map_cons, List.filter_cons, expires_countDown, spotsConsidered, List.filterMap_cons,
      ← spotsConsidered, ← ih]
    by_cases hw : e.place = .waiting
    · cases hc : e.considered
      · simp [SpotEntry.expiring, hc, hw, consider, countDown, SpotEntry.waiting]
      · by_cases hr : e.remaining ≤ 1
        · simp [SpotEntry.expiring, hc, hw, hr]
        · simp [SpotEntry.expiring, hc, hw, hr, consider, countDown, SpotEntry.waiting]
    · simp [SpotEntry.expiring, hw, consider, countDown, SpotEntry.waiting]

theorem countDown_expired (e : SpotEntry) : spotExpired (countDown e) = spotExpired e ∧
    (countDown e).input = e.input := by
  rw [countDown]
  split <;> exact ⟨rfl, rfl⟩

theorem spotsLeft_congr {gone gone' : List SpotEntry} (l : List SpotEntry) (s : State)
    (h : gone.map SpotEntry.input = gone'.map SpotEntry.input) : spotsLeft l gone s = spotsLeft l gone' s := by
  have hcount (k : InputNo) : (gone.filter fun e => decide (e.input = k)).length =
      (gone'.filter fun e => decide (e.input = k)).length := by
    have hdec : (fun e : SpotEntry => decide (e.input = k)) = fun e => e.input == k := rfl
    rw [hdec, filter_input_length, filter_input_length, h]
  simp only [spotsLeft, hcount]

/-- Expiry at a boundary: the queue, the use counts and the events, and nothing else (R69). -/
theorem expireSpots_eq (s : State) :
    expireSpots s = afterEvents ((s.seq.spots.filter SpotEntry.expiring).map spotExpired)
      (spotsLeft (spotsConsidered s.seq.spots) (s.seq.spots.filter SpotEntry.expiring) s) := by
  rw [expireSpots, foldl_expireEntry, foldl_useDown, expired_eq, considered_eq, List.map_map,
    setSpots_seq, spotsLeft_setSpots]
  have hev : spotExpired ∘ countDown = spotExpired := funext fun e => (countDown_expired e).1
  have hin : ((s.seq.spots.filter SpotEntry.expiring).map countDown).map SpotEntry.input =
      (s.seq.spots.filter SpotEntry.expiring).map SpotEntry.input := by
    rw [List.map_map]
    exact List.map_congr_left fun e _ => (countDown_expired e).2
  rw [hev, spotsLeft_congr _ _ hin]

/-- The entries left by expiry, without those that expire, and those that expire. -/
theorem spotsConsidered_change (l : List SpotEntry) :
    SpotsChange l (spotsConsidered l) (l.filter SpotEntry.expiring) := by
  have hkept : (spotsConsidered l).map SpotEntry.key = (l.filter fun e => !e.expiring).map SpotEntry.key := by
    rw [spotsConsidered, List.map_filterMap, ← List.filterMap_eq_map, List.filterMap_filter]
    refine List.filterMap_congr fun e _ => ?_
    by_cases hw : e.place = .waiting
    · cases hc : e.considered
      · simp [SpotEntry.expiring, hw, hc, SpotEntry.key]
      · by_cases hr : e.remaining ≤ 1 <;> simp [SpotEntry.expiring, hw, hc, hr, SpotEntry.key]
    · simp [SpotEntry.expiring, hw]
  have hinputs : (spotsConsidered l).map SpotEntry.input = (l.filter fun e => !e.expiring).map SpotEntry.input := by
    have := congrArg (List.map fun x : Port × Byte × InputNo => x.2.2) hkept
    rwa [List.map_map, List.map_map] at this
  constructor
  · rw [hkept]
    exact List.filter_sublist.map _
  · rw [List.map_append, hinputs, ← List.map_append]
    exact (List.perm_append_comm.trans (List.filter_append_perm _ l)).map _

theorem expireSpots_changes (s : State) : Changes s (expireSpots s) := by
  rw [expireSpots_eq]
  exact (Relation.ReflTransGen.single (.spots (spotsConsidered_change _))).trans (afterEvents_changes _ _)

theorem assignSpots_key (slots : Nat) (list : List ListEntry) (q : List SpotEntry) :
    (assignSpots slots list q).2.map SpotEntry.key = q.map SpotEntry.key := by
  induction q generalizing list with
  | nil => rfl
  | cons e q ih =>
    rw [assignSpots.eq_def]
    dsimp only
    split
    · split
      · exact congrArg (e.key :: ·) (ih _)
      · split
        · exact congrArg (e.key :: ·) (ih _)
        · exact congrArg (e.key :: ·) (ih _)
    · exact congrArg (e.key :: ·) (ih _)

theorem filter_change (gone : SpotEntry → Bool) (l : List SpotEntry) :
    SpotsChange l (l.filter fun e => !gone e) (l.filter gone) :=
  ⟨List.filter_sublist.map _, by
    exact (List.perm_append_comm.trans (List.filter_append_perm gone l)).map _⟩

end Sys2Proof.Machine
end

section
/-! SUPPORT. The converter, standalone service and the spot commands as chains of changes. -/

namespace Sys2Proof.Machine

open Sys2Proof.Safety

/-! ### Completion of spot entries (R72) -/

/-- The copy of the spot record of an entry, for its port (R72). -/
def spotCopy (code : BitVec 12) (c : Conversion) (s : State) (e : SpotEntry) : Port × SampleRecord :=
  (e.port, spotRecord e code c s)

theorem completeEntry_eq (code : BitVec 12) (c : Conversion) (e : SpotEntry) (s : State) :
    completeEntry code c e s = afterCopies [spotCopy code c s e] (useDown e.input s) := by
  rw [completeEntry, placeSample_copy]
  rfl

theorem foldl_completeEntry (code : BitVec 12) (c : Conversion) (gone : List SpotEntry) (s : State) :
    gone.foldl (fun s e => completeEntry code c e s) s =
      afterCopies (gone.map (spotCopy code c s)) (spotsLeft s.seq.spots gone s) := by
  have hcomm (l : List (Port × SampleRecord)) (gone : List SpotEntry) (s : State) :
      gone.foldl (fun s e => useDown e.input s) (afterCopies l s) =
        afterCopies l (gone.foldl (fun s e => useDown e.input s) s) := by
    rw [foldl_useDown, foldl_useDown]
    rfl
  rw [← foldl_useDown]
  induction gone generalizing s with
  | nil => exact (afterCopies_nil s).symm
  | cons e gone ih =>
    rw [List.foldl_cons, ih, completeEntry_eq, hcomm, afterCopies_append]
    rfl

/-- The entries in flight complete: the queue, the use counts and the copies, and nothing else (R72). -/
theorem completeSpots_eq (code : BitVec 12) (c : Conversion) (s : State) :
    completeSpots code c s = afterCopies
      ((s.seq.spots.filter fun e => e.place == .inFlight).map (spotCopy code c s))
      (spotsLeft (s.seq.spots.filter fun e => !(e.place == .inFlight))
        (s.seq.spots.filter fun e => e.place == .inFlight) s) := by
  rw [completeSpots, foldl_completeEntry, setSpots_seq, spotsLeft_setSpots]
  rfl

theorem afterCopies_changes (l : List (Port × SampleRecord)) (s : State) : Changes s (afterCopies l s) := by
  induction l generalizing s with
  | nil => rw [afterCopies_nil]
  | cons x l ih =>
    have hsplit : afterCopies (x :: l) s = afterCopies l (afterCopies [x] s) := (afterCopies_append [x] l s).symm
    rw [hsplit, ← placeSample_copy x.2 x.1]
    exact (placeSample_changes _ _ _).trans (ih _)

theorem completeSpots_changes (code : BitVec 12) (c : Conversion) (s : State) :
    Changes s (completeSpots code c s) := by
  rw [completeSpots_eq]
  exact (Relation.ReflTransGen.single (.spots (filter_change _ _))).trans (afterCopies_changes _ _)

/-! ### The converter (R58 to R64) -/

theorem setRefin_changes (refin : RefLevel) (s : State) : Changes s (setRefin refin s) :=
  .single (.converter s.conv s.isel.routed s.isel.refOk refin id)

theorem powerUp_changes (s : State) : Changes s (powerUp s) := by
  rw [powerUp]
  split
  next hoff =>
    refine .single (.converter { s.conv with power := .warming, warmUp := some Config.warmUpTime } s.isel.routed
      s.isel.refOk s.isel.refin fun ⟨hbusy, _, hrouted⟩ => ⟨?_, by simp, hrouted⟩)
    rw [hoff] at hbusy
    simpa using hbusy
  next => exact .refl

theorem judgePower_changes (s : State) : Changes s (judgePower s) := by
  rw [judgePower]
  split
  next h =>
    obtain ⟨hready, -, -, hidle⟩ := h
    refine .single (.converter { s.conv with power := .off } s.isel.routed
      s.isel.refOk s.isel.refin fun ⟨_, hwarm, hrouted⟩ => ⟨by simp [hidle], ?_, hrouted⟩)
    rw [hready] at hwarm
    simpa using hwarm
  next => exact .refl

theorem beginConversion_changes {s : State} (k : InputNo) (frame : Option FrameNo) (due : List Due)
    (h : s.conv.power = .ready) : Changes s (beginConversion k frame due s) := by
  rw [beginConversion_begun]
  refine (Relation.ReflTransGen.single (.converter { s.conv with
    power := .busy, conversion := _ } (some k) _ s.isel.refin fun ⟨_, hwarm, _⟩ => ⟨by simp, ?_, rfl⟩)).trans
    (afterEvents_changes _ _)
  rw [h] at hwarm
  simpa using hwarm

theorem releaseConverter_changes (s : State) (h : s.conv.conversion ≠ none) :
    Changes s (releaseConverter s) := by
  refine .single (.converter { s.conv with power := .ready, conversion := none } none s.isel.refOk s.isel.refin
    fun ⟨hbusy, hwarm, _⟩ => ⟨by simp, ?_, rfl⟩)
  rw [hbusy.mpr h] at hwarm
  simpa using hwarm

/-! ### Standalone service (R73, R74) -/

theorem assignStandalone_key (k : InputNo) (l : List SpotEntry) :
    (assignStandalone k l).map SpotEntry.key = l.map SpotEntry.key := by
  induction l with
  | nil => rfl
  | cons e l ih =>
    rw [assignStandalone]
    split
    · exact congrArg (e.key :: ·) ih
    · rfl

theorem startStandalone_changes (s : State) : Changes s (startStandalone s) := by
  rcases startStandalone_cases s with h | ⟨e, rest, -, -, hready, -, h⟩
  · rw [h]
  · rw [h]
    exact (setSpots_changes (assignStandalone_key _ _)).trans (beginConversion_changes _ _ _ hready)

/-! ### The spot commands (R67, R68, R76, R78) -/

theorem acceptSpot_changes {e : SpotEntry} {s : State} (h : SpotJoins s e) : Changes s (acceptSpot e s) := by
  have hjoin : Changes s (spotQueued e s) := .single (.join h)
  rw [acceptSpot_eq]
  split
  · exact (hjoin.trans (powerUp_changes _)).trans (startStandalone_changes _)
  · exact hjoin

theorem isOf_any {n : Port} {tag : Byte} {l : List SpotEntry} (h : ¬ l.any (SpotEntry.isOf n tag) = true) :
    (n, tag) ∉ l.map fun x => (x.port, x.tag) := by
  intro hmem
  obtain ⟨e, he, hkey⟩ := List.mem_map.mp hmem
  obtain ⟨hp, ht⟩ := Prod.mk.inj hkey
  exact h (List.any_eq_true.mpr ⟨e, he, by simp [SpotEntry.isOf, hp, ht]⟩)

theorem spotBlock_changes {n : Port} (input tag profile timeout : Byte) {s : State} (hn : Attached n s) :
    Changes s (spotBlock n input tag profile timeout s).2 := by
  rw [spotBlock]
  split
  next =>
    dsimp only
    split
    · exact .refl
    next hnew =>
      split
      · exact .refl
      next hroom =>
        split
        · exact .refl
        next hshare =>
          split
          · exact .refl
          next hmode =>
            exact acceptSpot_changes ⟨Nat.lt_of_not_le hroom, Nat.lt_of_not_le hshare, isOf_any hnew,
              not_not.mp hmode, hn⟩
  next => exact .refl

/-- SEQ with list entries taken out. -/
theorem SeqChange.filterList {s : State} (keep : ListEntry → Bool) :
    SeqChange s { s.seq with list := s.seq.list.filter keep } := by
  refine ⟨rfl, .inl rfl, fun _ h => .inl h, fun ⟨hvotes, hhalt, hstop⟩ => ⟨hvotes, hhalt, fun h => ?_⟩,
    fun _ hframe hrun => ?_, fun h => .inl h⟩
  · obtain ⟨hf, hs, hl⟩ := hstop h
    exact ⟨hf, hs, by simp [hl]⟩
  · obtain ⟨hslot, hin, hslots, hinputs⟩ := hframe hrun
    exact ⟨hslot, fun x hx => hin x (List.mem_filter.mp hx).1,
      hslots.sublist (List.filter_sublist.map _), hinputs.sublist (List.filter_sublist.map _)⟩

/-- Entries removed from the queue, in exact form (R76, R78). -/
theorem removeSpots_eq (gone : SpotEntry → Bool) (s : State) :
    removeSpots gone s = judgePower (spotsLeft (s.seq.spots.filter fun e => !gone e) (s.seq.spots.filter gone)
      (s.withSeq { s.seq with
        list := pruneList s.seq.slot (s.seq.spots.filter fun e => !gone e) s.seq.list })) := by
  rw [removeSpots, foldl_useDown]
  rfl

theorem removeSpots_changes (gone : SpotEntry → Bool) (s : State) : Changes s (removeSpots gone s) := by
  rw [removeSpots_eq]
  exact (((Relation.ReflTransGen.single (.seq (SeqChange.filterList _))).tail
    (.spots (filter_change gone s.seq.spots)))).trans (judgePower_changes _)

theorem cancelSpotBlock_changes (n : Port) (tag : Byte) (s : State) :
    Changes s (cancelSpotBlock n tag s).2 := by
  rw [cancelSpotBlock]
  split
  · exact .refl
  · split
    · exact .refl
    · exact removeSpots_changes _ s

end Sys2Proof.Machine
end

section
/-! SUPPORT. What promotion and the freeing of records do not see of SEQ and of the profiles; the exact forms of a
frame boundary and of the entry to STOPPED that rest on it. -/

namespace Sys2Proof.Machine

open Sys2Proof.Safety

/-! ### Operations that see of SEQ the frame number alone -/

/-- The state s with SEQ and the profiles replaced. -/
def overlaid (q : Seq) (ps : Vector Profile 8) (s : State) : State :=
  { s with seq := q, asu := { s.asu with profiles := ps } }

section
variable {q : Seq} {ps : Vector Profile 8} {s : State}

theorem afterEvents_overlaid (l : List Announced) (h : q.fn = s.seq.fn) :
    afterEvents l (overlaid q ps s) = overlaid q ps (afterEvents l s) := by
  have hqueues : queuesAfter (overlaid q ps s).seq.fn l (overlaid q ps s) = queuesAfter s.seq.fn l s := by
    rw [show (overlaid q ps s).seq.fn = s.seq.fn from h]
    rfl
  rw [afterEvents, hqueues]
  rfl

theorem exitReport_overlaid (l : LineNo) (i : SubId) (h : q.fn = s.seq.fn) :
    exitReport l i (overlaid q ps s) = overlaid q ps (exitReport l i s) :=
  exitReport_comm (f := overlaid q ps) (s := s) i rfl rfl (fun _ => rfl) fun _ => afterEvents_overlaid _ h

theorem exitIfAlarm_overlaid (i : SubId) (w : Option Watch) (h : q.fn = s.seq.fn) :
    exitIfAlarm i w (overlaid q ps s) = overlaid q ps (exitIfAlarm i w s) :=
  exitIfAlarm_comm (fun l => exitReport_overlaid l i h) w

theorem freeRecord_overlaid (i : SubId) (h : q.fn = s.seq.fn) :
    freeRecord i (overlaid q ps s) = overlaid q ps (freeRecord i s) := by
  have hfreed : recordFreed i (overlaid q ps s) = overlaid q ps (recordFreed i s) :=
    afterEvents_overlaid (s := recordDropped i s) _ h
  rw [freeRecord_eq, freeRecord_eq, hfreed]
  exact exitIfAlarm_overlaid (s := recordFreed i s) i (s.watch i) h

theorem watchEvent_eq (i : SubId) (c : EventCode) (d : BitVec 16) (s : State) :
    watchEvent i c d s = afterEvents [⟨audienceOf (s.record i), c, idByte i, d⟩] s := by
  rw [watchEvent, raise_eq, SubRecord.audience_eq]

theorem restartWatch_overlaid (i : SubId) (old new : Option WatchPart) (gen : BitVec 8) (s : State) :
    restartWatch i old new gen (overlaid q ps s) = overlaid q ps (restartWatch i old new gen s) := by
  have hwatch : (overlaid q ps s).watch i = s.watch i := rfl
  rw [restartWatch, restartWatch, hwatch]
  by_cases h : old = new
  · rw [if_pos h, if_pos h]
    cases s.watch i <;> rfl
  · rw [if_neg h, if_neg h]
    rfl

theorem takeStaged_overlaid (i : SubId) (p : Params) (h : q.fn = s.seq.fn) :
    takeStaged i p (overlaid q ps s) = overlaid q ps (takeStaged i p s) := by
  have hretaken : recordRetaken i p (overlaid q ps s) = overlaid q ps (recordRetaken i p s) := by
    rw [recordRetaken_eq, recordRetaken_eq]
    exact restartWatch_overlaid i _ _ _ (windowRetaken i p s)
  have hrec : (overlaid q ps s).record i = s.record i := rfl
  have hwatch : (overlaid q ps s).watch i = s.watch i := rfl
  rw [takeStaged_eq, takeStaged_eq, hrec, hwatch, hretaken, watchEvent_eq, watchEvent_eq]
  split
  · rfl
  · split
    · rfl
    · split
      next v _ _ =>
        have hevent := afterEvents_overlaid (ps := ps) (s := recordRetaken i p s)
          [⟨audienceOf ((recordRetaken i p s).record i), .watchClear, idByte i, clearReconfigured⟩] h
        exact (congrArg (exitIfAlarm i (some v)) hevent).trans
          (exitIfAlarm_overlaid (s := afterEvents _ (recordRetaken i p s)) i _ h)
      · rfl

theorem promoteRecord_overlaid (i : SubId) (h : q.fn = s.seq.fn) :
    promoteRecord i (overlaid q ps s) = overlaid q ps (promoteRecord i s) := by
  have hrec : (overlaid q ps s).record i = s.record i := rfl
  rw [promoteRecord, promoteRecord]
  simp only [hrec]
  split
  · rfl
  · exact takeStaged_overlaid i _ h
  · exact freeRecord_overlaid i h
  all_goals rfl

/-- An operation of this kind leaves SEQ and the profiles as they are. -/
theorem kept_of_overlaid {f : State → State} {s : State}
    (h : f (overlaid s.seq s.asu.profiles s) = overlaid s.seq s.asu.profiles (f s)) :
    (f s).seq = s.seq ∧ (f s).asu.profiles = s.asu.profiles := by
  have hs : f s = overlaid s.seq s.asu.profiles (f s) := h
  exact ⟨(congrArg State.seq hs).trans rfl, (congrArg (fun t => t.asu.profiles) hs).trans rfl⟩

theorem foldl_overlaid {f : State → SubId → State}
    (hf : ∀ (s : State) (q : Seq) (ps : Vector Profile 8) (i : SubId), q.fn = s.seq.fn →
      f (overlaid q ps s) i = overlaid q ps (f s i))
    (l : List SubId) (h : q.fn = s.seq.fn) :
    l.foldl f (overlaid q ps s) = overlaid q ps (l.foldl f s) := by
  induction l generalizing s with
  | nil => rfl
  | cons i l ih =>
    have hseq : (f s i).seq = s.seq := (kept_of_overlaid (f := fun s => f s i) (hf s _ _ i rfl)).1
    rw [List.foldl_cons, List.foldl_cons, hf s q ps i h]
    exact ih (h.trans (congrArg Seq.fn hseq).symm)

theorem promoteAll_overlaid (h : q.fn = s.seq.fn) :
    promoteAll (overlaid q ps s) = overlaid q ps (promoteAll s) :=
  foldl_overlaid (fun _ _ _ i h => promoteRecord_overlaid i h) subIds h

theorem freeClosing_overlaid (h : q.fn = s.seq.fn) :
    freeClosing (overlaid q ps s) = overlaid q ps (freeClosing s) := by
  refine foldl_overlaid (fun s q ps i h => ?_) subIds h
  have hrec : (overlaid q ps s).record i = s.record i := rfl
  rw [hrec]
  split
  · exact freeRecord_overlaid i h
  · rfl

end

theorem promoteAll_kept (s : State) :
    (promoteAll s).seq = s.seq ∧ (promoteAll s).asu.profiles = s.asu.profiles :=
  kept_of_overlaid (promoteAll_overlaid rfl)

theorem freeClosing_kept (s : State) :
    (freeClosing s).seq = s.seq ∧ (freeClosing s).asu.profiles = s.asu.profiles :=
  kept_of_overlaid (freeClosing_overlaid rfl)

/-! ### A frame boundary (R20, R36, R40, R69, R70, R87) -/

/-- The state s with FN advanced, the last frame forgotten and staged profile values active (R36, R96). -/
def frameOpened (s : State) : State :=
  activateProfiles (s.withSeq { s.seq with fn := s.seq.fn + 1, cut := false, slot := 0, list := [] })

/-- The list and the spot queue of a new frame: the assignment, after expiry (R40, R69, R70). -/
def frameList (s : State) : List ListEntry × List SpotEntry :=
  assignSpots s.seq.slots (plannedList s) (spotsConsidered s.seq.spots)

theorem plannedFrom_eq (s : State) (r : Residue) (slot : Nat) (l : List InputNo) :
    plannedFrom s r slot l = (l.zipIdx slot).map fun x => ⟨x.2, x.1, .planned, dueSet s r x.1⟩ := by
  induction l generalizing slot with
  | nil => rfl
  | cons k l ih => rw [plannedFrom, ih]; rfl

theorem plannedList_eq (s : State) :
    plannedList s = ((plannedInputs s (residueOf s.seq.fn)).zipIdx 1).map fun x =>
      ⟨x.2, x.1, .planned, dueSet s (residueOf s.seq.fn) x.1⟩ := plannedFrom_eq _ _ _ _

/-- The state s after expiry, with the list of the new frame and its timers (R38, R39, R40, R69, R70). -/
def frameStarted (s : State) : State :=
  (expireSpots s).withSeq (startFrameTimers { (expireSpots s).seq with
    list := (frameList s).1, spots := (frameList s).2 })

theorem buildList_started (s : State) :
    (buildList s).withSeq (startFrameTimers (buildList s).seq) = frameStarted s := by
  rw [buildList, frameStarted, expireSpots_eq]
  rfl

/-- The new frame does not see the list of the last one. -/
theorem frameStarted_list (l : List ListEntry) (s : State) :
    frameStarted (s.withSeq { s.seq with list := l }) = frameStarted s := by
  have hframe : frameList (s.withSeq { s.seq with list := l }) = frameList s := by
    rw [frameList, frameList, plannedList_eq, plannedList_eq]
    rfl
  rw [frameStarted, frameStarted, hframe, expireSpots_eq, expireSpots_eq]
  rfl

/-- A new frame: promotion, then expiry, the list and the timers (R20, R36, R40). -/
theorem beginFrame_eq (s : State) : beginFrame s = frameStarted (promoteAll (frameOpened s)) := by
  have hpromoted : promoteAll (activateProfiles (s.withSeq { s.seq with
      fn := s.seq.fn + 1, cut := false, slot := 0 })) =
      overlaid { s.seq with fn := s.seq.fn + 1, cut := false, slot := 0 } (frameOpened s).asu.profiles
        (promoteAll (frameOpened s)) := promoteAll_overlaid (s := frameOpened s) rfl
  have hlist : overlaid { s.seq with fn := s.seq.fn + 1, cut := false, slot := 0 } (frameOpened s).asu.profiles
      (promoteAll (frameOpened s)) = (promoteAll (frameOpened s)).withSeq
        { (promoteAll (frameOpened s)).seq with list := s.seq.list } := by
    obtain ⟨hseq, hprofiles⟩ := promoteAll_kept (frameOpened s)
    generalize promoteAll (frameOpened s) = t at hseq hprofiles
    rw [← hprofiles, hseq]
    rfl
  rw [← frameStarted_list s.seq.list, ← hlist, ← hpromoted, ← buildList_started]
  rfl

/-! ### The entry to STOPPED (R34) -/

/-- SEQ after the entry to STOPPED, but for the spot queue (R34). -/
def Seq.stopped (q : Seq) : Seq :=
  { q with
    state := .stopped, frameTimer := none, syncTimer := none, list := [], starter := none,
    sync := restSync q.source }

/-- The state s with SEQ stopped, staged profile values active and the CLOSING records freed (R23, R34, R96). -/
def sequencerStopped (s : State) : State := freeClosing ((activateProfiles s).withSeq s.seq.stopped)

theorem enterStopped_eq (s : State) : enterStopped s = judgePower (startStandalone (sequencerStopped s)) := by
  have hfree : activateProfiles (freeClosing (s.withSeq s.seq.stopped)) = sequencerStopped s := by
    have h : freeClosing ((activateProfiles s).withSeq s.seq.stopped) =
        overlaid s.seq.stopped (activateProfiles s).asu.profiles (freeClosing (s.withSeq s.seq.stopped)) :=
      freeClosing_overlaid (s := s.withSeq s.seq.stopped) rfl
    obtain ⟨hseq, hprofiles⟩ := freeClosing_kept (s.withSeq s.seq.stopped)
    rw [sequencerStopped, h]
    generalize freeClosing (s.withSeq s.seq.stopped) = t at hseq hprofiles
    have hactive : (activateProfiles t).asu.profiles = (activateProfiles s).asu.profiles :=
      table_ext fun p => by
        have hp : t.profile p = s.profile p := congrArg (fun ps : Vector Profile 8 => ps[p]) hprofiles
        exact (activateProfiles_profile p t).trans (hp ▸ (activateProfiles_profile p s).symm)
    have hstopped : s.seq.stopped = t.seq := hseq.symm
    rw [activateProfiles_eq, hactive, overlaid, hstopped]
  have henter : enterStopped s =
    judgePower (startStandalone (activateProfiles (freeClosing (s.withSeq s.seq.stopped)))) := rfl
  rw [henter, hfree]

end Sys2Proof.Machine
end

section
/-! SUPPORT. The assignment of list entries to spot entries at a boundary (R70). -/

namespace Sys2Proof.Machine

open Sys2Proof.Safety

/-- A conversion list with its entries in slots 1, 2, …, at most S of them, one an input (R37, R40, R41). -/
structure Numbered (slots : Nat) (l : List ListEntry) : Prop where
  slot : l.map ListEntry.slot = (List.range l.length).map (· + 1)
  input : (l.map ListEntry.input).Nodup
  length : l.length ≤ slots

/-- The SPARE entry that a spot entry of input k takes after this list (R70). -/
def spareEntry (l : List ListEntry) (k : InputNo) : ListEntry := ⟨l.length + 1, k, .spare, []⟩

section
variable {slots : Nat} {l : List ListEntry} {e : SpotEntry} (q : List SpotEntry)

theorem assignSpots_placed (h : e.place ≠ .waiting) : assignSpots slots l (e :: q) =
    ((assignSpots slots l q).1, e :: (assignSpots slots l q).2) := by
  have hw : e.waiting ≠ true := fun h' => h ((waiting_iff e).mp h')
  rw [assignSpots, if_neg hw]

theorem assignSpots_shared {x : ListEntry} (h : e.place = .waiting)
    (hx : l.find? (fun x => x.input == e.input) = some x) : assignSpots slots l (e :: q) =
    ((assignSpots slots l q).1, { e with place := .listed x.slot } :: (assignSpots slots l q).2) := by
  rw [assignSpots, if_pos ((waiting_iff e).mpr h), hx]

theorem assignSpots_spare (h : e.place = .waiting) (hx : l.find? (fun x => x.input == e.input) = none)
    (hroom : l.length < slots) : assignSpots slots l (e :: q) =
    ((assignSpots slots (l ++ [spareEntry l e.input]) q).1,
      { e with place := .listed (l.length + 1) } :: (assignSpots slots (l ++ [spareEntry l e.input]) q).2) := by
  rw [assignSpots, if_pos ((waiting_iff e).mpr h), hx]
  dsimp only
  rw [if_pos hroom]
  rfl

theorem assignSpots_left (h : e.place = .waiting) (hx : l.find? (fun x => x.input == e.input) = none)
    (hfull : ¬ l.length < slots) : assignSpots slots l (e :: q) =
    ((assignSpots slots l q).1, e :: (assignSpots slots l q).2) := by
  rw [assignSpots, if_pos ((waiting_iff e).mpr h), hx]
  dsimp only
  rw [if_neg hfull]

end

theorem Numbered.append_spare {slots : Nat} {l : List ListEntry} {k : InputNo} (h : Numbered slots l)
    (hx : l.find? (fun x => x.input == k) = none) (hroom : l.length < slots) :
    Numbered slots (l ++ [spareEntry l k]) := by
  obtain ⟨hslot, hinput, hlength⟩ := h
  refine ⟨?_, ?_, ?_⟩
  · simp [hslot, List.range_succ, spareEntry]
  · rw [List.map_append, List.nodup_append]
    refine ⟨hinput, by simp, fun a ha b hb hab => ?_⟩
    obtain ⟨y, hy, rfl⟩ := List.mem_map.mp ha
    have := List.find?_eq_none.mp hx y hy
    simp [spareEntry] at hb
    simp [hab, hb] at this
  · simpa using hroom

/-- The inputs of the WAITING entries that no entry of this list converts, from head to tail (R70). -/
def unconverted (l : List ListEntry) (q : List SpotEntry) : List InputNo :=
  ((q.filter fun e => decide (e.place = .waiting)).map SpotEntry.input).filter fun k =>
    decide (k ∉ l.map ListEntry.input)

/-- Assignment has added these SPARE entries to the planned ones and left this spot queue (R70). -/
structure Assigned (slots : Nat) (planned : List ListEntry) (q : List SpotEntry) (spare : List ListEntry)
    (q' : List SpotEntry) : Prop where
  result : assignSpots slots planned q = (planned ++ spare, q')
  numbered : Numbered slots (planned ++ spare)
  spares : ∀ x ∈ spare, x.origin = .spare ∧ x.due = [] ∧ ∃ e ∈ q', e.place = .listed x.slot
  sublist : (spare.map ListEntry.input).Sublist (q.map SpotEntry.input)
  inputs : spare.map ListEntry.input = (unconverted planned q).eraseDups.take (slots - planned.length)
  unplaced : q'.map (fun e => { e with place := .waiting }) = q.map (fun e => { e with place := .waiting })
  others : ∀ p ∈ q.zip q', p.1.place ≠ .waiting → p.2 = p.1
  waiting : ∀ p ∈ q.zip q', p.1.place = .waiting →
    match (planned ++ spare).find? (fun x => x.input == p.1.input) with
    | some x => p.2.place = .listed x.slot
    | none => p.2.place = .waiting ∧ (planned ++ spare).length = slots

section
variable {slots : Nat} {planned spare : List ListEntry} {q q' : List SpotEntry} {e : SpotEntry}

theorem Assigned.nil (h : Numbered slots planned) : Assigned slots planned [] [] [] where
  result := by simp [assignSpots]
  numbered := by simpa using h
  spares := by simp
  sublist := by simp
  inputs := by simp [unconverted]
  unplaced := rfl
  others := by simp
  waiting := by simp

theorem Assigned.placed (h : Assigned slots planned q spare q') (he : e.place ≠ .waiting) :
    Assigned slots planned (e :: q) spare (e :: q') where
  result := by rw [assignSpots_placed q he, h.result]
  numbered := h.numbered
  spares x hx := by
    obtain ⟨ho, hd, e', he', hp⟩ := h.spares x hx
    exact ⟨ho, hd, e', List.mem_cons_of_mem _ he', hp⟩
  sublist := h.sublist.cons _
  inputs := by
    have : unconverted planned (e :: q) = unconverted planned q := by simp [unconverted, he]
    rw [this, h.inputs]
  unplaced := by rw [List.map_cons, List.map_cons, h.unplaced]
  others p hp hw := by
    rcases List.mem_cons.mp hp with rfl | hp
    · rfl
    · exact h.others p hp hw
  waiting p hp hw := by
    rcases List.mem_cons.mp hp with rfl | hp
    · exact absurd hw he
    · exact h.waiting p hp hw

theorem Assigned.shared {x : ListEntry} (h : Assigned slots planned q spare q') (he : e.place = .waiting)
    (hx : planned.find? (fun x => x.input == e.input) = some x) :
    Assigned slots planned (e :: q) spare ({ e with place := .listed x.slot } :: q') where
  result := by rw [assignSpots_shared q he hx, h.result]
  numbered := h.numbered
  spares y hy := by
    obtain ⟨ho, hd, e', he', hp⟩ := h.spares y hy
    exact ⟨ho, hd, e', List.mem_cons_of_mem _ he', hp⟩
  sublist := h.sublist.cons _
  inputs := by
    have hk := List.find?_some hx
    have hmem : e.input ∈ planned.map ListEntry.input :=
      List.mem_map.mpr ⟨x, List.mem_of_find?_eq_some hx, beq_iff_eq.mp hk⟩
    have : unconverted planned (e :: q) = unconverted planned q := by
      rw [unconverted, List.filter_cons_of_pos (by simpa using he), List.map_cons,
        List.filter_cons_of_neg (by simpa using hmem)]
      rfl
    rw [this, h.inputs]
  unplaced := by rw [List.map_cons, List.map_cons, h.unplaced]
  others p hp hw := by
    rcases List.mem_cons.mp hp with rfl | hp
    · exact absurd he hw
    · exact h.others p hp hw
  waiting p hp hw := by
    rcases List.mem_cons.mp hp with rfl | hp
    · simp only [List.find?_append, hx, Option.some_or]
    · exact h.waiting p hp hw

theorem Assigned.takesSpare (h : Assigned slots (planned ++ [spareEntry planned e.input]) q spare q')
    (he : e.place = .waiting) (hx : planned.find? (fun x => x.input == e.input) = none)
    (hroom : planned.length < slots) : Assigned slots planned (e :: q) (spareEntry planned e.input :: spare)
      ({ e with place := .listed (planned.length + 1) } :: q') where
  result := by rw [assignSpots_spare q he hx hroom, h.result, List.append_assoc]; rfl
  numbered := by simpa using h.numbered
  spares y hy := by
    rcases List.mem_cons.mp hy with rfl | hy
    · exact ⟨rfl, rfl, _, List.mem_cons_self, rfl⟩
    · obtain ⟨ho, hd, e', he', hp⟩ := h.spares y hy
      exact ⟨ho, hd, e', List.mem_cons_of_mem _ he', hp⟩
  sublist := h.sublist.cons_cons _
  inputs := by
    have hmem : e.input ∉ planned.map ListEntry.input := fun hm => by
      obtain ⟨y, hy, hk⟩ := List.mem_map.mp hm
      exact List.find?_eq_none.mp hx y hy (beq_iff_eq.mpr hk)
    have hfirst : unconverted planned (e :: q) = e.input :: unconverted planned q := by
      rw [unconverted, List.filter_cons_of_pos (by simpa using he), List.map_cons,
        List.filter_cons_of_pos (by simpa using hmem)]
      rfl
    have hrest : unconverted (planned ++ [spareEntry planned e.input]) q =
        (unconverted planned q).filter fun k => !k == e.input := by
      rw [unconverted, unconverted, List.filter_filter]
      refine List.filter_congr fun k _ => ?_
      simp [spareEntry, not_or, and_comm]
      rfl
    have hroom' : slots - planned.length = (slots - (planned ++ [spareEntry planned e.input]).length) + 1 := by
      simp; omega
    rw [hfirst, List.eraseDups_cons, hroom', List.take_succ_cons, ← hrest, ← h.inputs]
    rfl
  unplaced := by rw [List.map_cons, List.map_cons, h.unplaced]
  others p hp hw := by
    rcases List.mem_cons.mp hp with rfl | hp
    · exact absurd he hw
    · exact h.others p hp hw
  waiting p hp hw := by
    rcases List.mem_cons.mp hp with rfl | hp
    · have hfound : (spareEntry planned e.input :: spare).find? (fun x => x.input == e.input) =
          some (spareEntry planned e.input) := List.find?_cons_of_pos (beq_self_eq_true _)
      simp only [List.find?_append, hx, Option.none_or, hfound]
      rfl
    · have := h.waiting p hp hw
      rwa [List.append_assoc] at this

theorem Assigned.left (h : Assigned slots planned q spare q') (he : e.place = .waiting)
    (hx : planned.find? (fun x => x.input == e.input) = none) (hfull : ¬ planned.length < slots)
    (hlength : planned.length ≤ slots) : Assigned slots planned (e :: q) spare (e :: q') where
  result := by rw [assignSpots_left q he hx hfull, h.result]
  numbered := h.numbered
  spares x hx := by
    obtain ⟨ho, hd, e', he', hp⟩ := h.spares x hx
    exact ⟨ho, hd, e', List.mem_cons_of_mem _ he', hp⟩
  sublist := h.sublist.cons _
  inputs := by
    have hzero : slots - planned.length = 0 := by omega
    rw [h.inputs, hzero, List.take_zero, List.take_zero]
  unplaced := by rw [List.map_cons, List.map_cons, h.unplaced]
  others p hp hw := by
    rcases List.mem_cons.mp hp with rfl | hp
    · rfl
    · exact h.others p hp hw
  waiting p hp hw := by
    rcases List.mem_cons.mp hp with rfl | hp
    · have hnone : spare = [] := by
        have := h.inputs
        rwa [show slots - planned.length = 0 by omega, List.take_zero, List.map_eq_nil_iff] at this
      subst hnone
      rw [List.append_nil]
      simp only [hx]
      exact ⟨he, by omega⟩
    · exact h.waiting p hp hw

end

/-- Assignment from head to tail (R70). -/
theorem assigned {slots : Nat} {planned : List ListEntry} (q : List SpotEntry) (h : Numbered slots planned) :
    ∃ spare q', Assigned slots planned q spare q' := by
  induction q generalizing planned with
  | nil => exact ⟨[], [], .nil h⟩
  | cons e q ih =>
    by_cases he : e.place = .waiting
    · cases hx : planned.find? fun x => x.input == e.input with
      | some x =>
        obtain ⟨spare, q', hrest⟩ := ih h
        exact ⟨_, _, hrest.shared he hx⟩
      | none =>
        by_cases hroom : planned.length < slots
        · obtain ⟨spare, q', hrest⟩ := ih (h.append_spare hx hroom)
          exact ⟨_, _, hrest.takesSpare he hx hroom⟩
        · obtain ⟨spare, q', hrest⟩ := ih h
          exact ⟨_, _, hrest.left he hx hroom h.length⟩
    · obtain ⟨spare, q', hrest⟩ := ih h
      exact ⟨_, _, hrest.placed he⟩

end Sys2Proof.Machine

namespace Sys2Proof.Proofs

open Sys2Proof.Machine Sys2Proof.Safety

/-- Settles O34: expiry in exact form, and assignment from head to tail. -/
theorem spotsAtABoundary : Obligations.SpotsAtABoundary := by
  unfold Obligations.SpotsAtABoundary
  refine ⟨expireSpots_eq, fun slots planned q hslot hinput hlength => ?_⟩
  obtain ⟨spare, q', h⟩ := assigned q ⟨hslot, hinput, hlength⟩
  exact ⟨spare, q', h.result, h.numbered.length, h.numbered.input, h.numbered.slot, h.spares, h.sublist,
    h.inputs, h.unplaced, h.others, h.waiting⟩

end Sys2Proof.Proofs
end

section
/-! SUPPORT. The sequencer's operations as chains of changes. -/

namespace Sys2Proof.Machine

open Sys2Proof.Safety

/-! ### The list of a new frame fits the slots (R6, R40) -/

theorem plannedList_input (s : State) :
    (plannedList s).map ListEntry.input = plannedInputs s (residueOf s.seq.fn) := by
  rw [plannedList_eq, List.map_map]
  exact List.zipIdx_map_fst _ _

theorem plannedList_slot (s : State) :
    (plannedList s).map ListEntry.slot = (List.range (plannedList s).length).map (· + 1) := by
  rw [plannedList_eq, List.map_map, List.length_map, List.length_zipIdx]
  have h : (ListEntry.slot ∘ fun x : InputNo × Nat =>
      (⟨x.2, x.1, .planned, dueSet s (residueOf s.seq.fn) x.1⟩ : ListEntry)) = Prod.snd := rfl
  rw [h, List.zipIdx_map_snd, List.range_eq_range', List.range'_eq_map_range, List.range_eq_range']
  exact List.map_congr_left fun i _ => Nat.add_comm 1 i

/-- Under the law of the plan table's capacity the planned entries of a frame fit its slots (R6). -/
theorem plannedList_numbered {s : State} (h : CapacityLaw s) : Numbered s.seq.slots (plannedList s) := by
  refine ⟨plannedList_slot s, ?_, ?_⟩
  · rw [plannedList_input]
    exact (List.nodup_finRange 16).filter _
  · have hlength := congrArg List.length (plannedList_input s)
    rw [List.length_map] at hlength
    rw [hlength]
    exact h (residueOf s.seq.fn)

theorem Numbered.frameSeq {q : Seq} {l : List ListEntry} (h : Numbered q.slots l) (hl : q.list = l)
    (hslot : q.slot = 0) : FrameSeq q := by
  intro _
  subst hl
  refine ⟨by omega, fun x hx => ?_, ?_, h.input⟩
  · have hmem : x.slot ∈ q.list.map ListEntry.slot := List.mem_map_of_mem hx
    rw [h.slot] at hmem
    obtain ⟨i, hi, hslot⟩ := List.mem_map.mp hmem
    have := List.mem_range.mp hi
    have := h.length
    omega
  · rw [h.slot]
    exact List.nodup_range.map (fun a b hab => Nat.succ.inj hab)

/-! ### Changes of SEQ -/

theorem raise_seq (a : PortSet) (c : EventCode) (b : Byte) (d : BitVec 16) (s : State) :
    (raise a c b d s).seq = s.seq := by
  rw [raise_eq]
  rfl

/-- SEQ with other settings of sync, timers and the like, outside STOPPED. -/
theorem SeqChange.running {s : State} {q : Seq} (hs : s.seq.state ≠ .stopped)
    (hspots : q.spots = s.seq.spots) (hslots : q.slots = s.seq.slots) (hvotes : q.votes = s.seq.votes)
    (hstate : q.state = s.seq.state) (hcause : q.haltCause = s.seq.haltCause)
    (hframe : CapacityLaw s → FrameSeq s.seq → FrameSeq q) : SeqChange s q := by
  refine ⟨hspots, .inl hslots, fun _ h => .inl (hvotes ▸ h), fun ⟨h, hhalt, _⟩ => ?_, hframe,
    fun h => .inl (hstate ▸ h)⟩
  exact ⟨by rw [hvotes, hstate]; exact h, by rw [hstate, hcause]; exact hhalt,
    fun h' => absurd (hstate ▸ h') hs⟩

/-- SEQ with another state that has the same votes, none of them in STOPPED or HALTING. -/
theorem votes_of_running {q : Seq} (h : VoteSeq q) (hq : q.state = .starting ∨ q.state = .running) :
    q.votes ≠ ⟨false, false, false⟩ := fun hv => by
  rcases h.1.mp hv with h' | h' <;> rcases hq with hq | hq <;> cases hq.symm.trans h'

theorem VoteSeq.running {q : Seq} (hq : q.state = .starting ∨ q.state = .running)
    (hv : q.votes ≠ ⟨false, false, false⟩) : VoteSeq q := by
  refine ⟨⟨fun h => absurd h hv, fun h => ?_⟩, fun h => ?_, fun h => ?_⟩
  · rcases h with h | h <;> rcases hq with hq | hq <;> cases hq.symm.trans h
  all_goals rcases hq with hq | hq <;> cases hq.symm.trans h

/-! ### A frame boundary (R31, R36) -/

theorem expireSpots_seq (s : State) : (expireSpots s).seq = { s.seq with spots := spotsConsidered s.seq.spots } := by
  rw [expireSpots_eq]
  rfl

theorem plannedList_congr {s t : State} (hfn : t.seq.fn = s.seq.fn) (h : t.subt = s.subt) :
    plannedList t = plannedList s := by
  have hdue (k : InputNo) : dueSet t (residueOf s.seq.fn) k = dueSet s (residueOf s.seq.fn) k := by
    simp only [dueSet, State.record, h]
  simp only [plannedList_eq, plannedInputs, hfn, hdue, h]

theorem frameStarted_changes {s : State} (hs : s.seq.state = .running) (hslot : s.seq.slot = 0) :
    Changes s (frameStarted s) := by
  have hseq := expireSpots_seq s
  have hkeys : (frameList s).2.map SpotEntry.key = (expireSpots s).seq.spots.map SpotEntry.key := by
    rw [frameList, assignSpots_key, hseq]
  have hrun : (expireSpots s).seq.state = .running := by rw [hseq]; exact hs
  have hplanned : plannedList (expireSpots s) = plannedList s :=
    plannedList_congr (by rw [hseq]) (by rw [expireSpots_eq]; rfl)
  have hlist : SeqChange (expireSpots s) (startFrameTimers { (expireSpots s).seq with list := (frameList s).1 }) := by
    rw [startFrameTimers_eq]
    refine .running (by rw [hrun]; decide) rfl rfl rfl rfl rfl fun hcap _ => ?_
    have hnum := plannedList_numbered hcap
    rw [hplanned, hseq] at hnum
    obtain ⟨spare, q', hassigned⟩ := assigned (spotsConsidered s.seq.spots) hnum
    refine Numbered.frameSeq (l := (frameList s).1) ?_ rfl (by rw [hseq]; exact hslot)
    rw [frameList, hassigned.result, hseq]
    exact hassigned.numbered
  have hstarted : frameStarted s = setSpots (frameList s).2 ((expireSpots s).withSeq
      (startFrameTimers { (expireSpots s).seq with list := (frameList s).1 })) := by
    rw [frameStarted, startFrameTimers_eq, startFrameTimers_eq]
    rfl
  rw [hstarted]
  refine ((expireSpots_changes s).tail (.seq hlist)).trans (setSpots_changes ?_)
  rw [startFrameTimers_eq]
  exact hkeys

/-- A boundary taken from STARTING or RUNNING. -/
theorem beginFrame_changes {s : State} {q : Seq} (hs : s.seq.state = .starting ∨ s.seq.state = .running)
    (hq : q.state = .running) (hspots : q.spots = s.seq.spots) (hslots : q.slots = s.seq.slots)
    (hvotes : q.votes = s.seq.votes) : Changes s (beginFrame (s.withSeq q)) := by
  have hopen : SeqChange s { q with fn := q.fn + 1, cut := false, slot := 0, list := [] } :=
    ⟨hspots, .inl hslots, fun _ h => .inl (hvotes ▸ h),
      fun h => .running (.inr hq) (hvotes ▸ votes_of_running h hs),
      fun _ _ _ => ⟨Nat.zero_le _, by simp, by simp, by simp⟩, fun h => by cases hq.symm.trans h⟩
  have hopened : Changes s (frameOpened (s.withSeq q)) :=
    (Relation.ReflTransGen.single (.seq hopen)).trans (activateProfiles_changes _)
  have hseq := (promoteAll_kept (frameOpened (s.withSeq q))).1
  have hstate : (frameOpened (s.withSeq q)).seq.state = .running := hq
  have hslot : (frameOpened (s.withSeq q)).seq.slot = 0 := rfl
  rw [beginFrame_eq]
  exact (hopened.trans (promoteAll_changes _)).trans
    (frameStarted_changes ((congrArg Seq.state hseq).trans hstate) ((congrArg Seq.slot hseq).trans hslot))

/-- The first boundary is a boundary with SEQ_STARTED behind it (R31). -/
theorem firstBoundary_after (s : State) : ∃ l : List Announced,
    firstBoundary s = afterEvents l (beginFrame (s.withSeq { s.seq with state := .running })) := by
  unfold firstBoundary
  generalize beginFrame (s.withSeq { s.seq with state := .running }) = t
  dsimp only
  split
  · exact ⟨[], (afterEvents_nil _).symm⟩
  · exact ⟨_, raise_eq _ _ _ _ _⟩

theorem firstBoundary_changes {s : State} {q : Seq} (hs : s.seq.state = .starting)
    (hspots : q.spots = s.seq.spots) (hslots : q.slots = s.seq.slots)
    (hvotes : q.votes = s.seq.votes) : Changes s (firstBoundary (s.withSeq q)) := by
  have hbegin := beginFrame_changes (q := { q with state := .running }) (.inl hs) rfl hspots hslots hvotes
  obtain ⟨l, h⟩ := firstBoundary_after (s.withSeq q)
  exact h ▸ hbegin.trans (afterEvents_changes l _)

theorem firstBoundary_changes_self {s : State} (hs : s.seq.state = .starting) : Changes s (firstBoundary s) :=
  firstBoundary_changes (q := s.seq) hs rfl rfl rfl

theorem tryStart_changes (s : State) : Changes s (tryStart s) := by
  rw [tryStart]
  split
  next h =>
    obtain ⟨hs, -, -⟩ := h
    split
    · exact firstBoundary_changes_self hs
    · exact .single (.seq (.running (by rw [hs]; decide) rfl rfl rfl rfl rfl fun _ => id))
  next => exact .refl

theorem converterFree_changes (s : State) : Changes s (converterFree s) :=
  ((tryStart_changes s).trans (startStandalone_changes _)).trans (judgePower_changes _)

/-! ### The end of a frame (R42, R43) -/

theorem cutFrame_changes {s : State} (code : EventCode) (hs : s.seq.state ≠ .stopped) :
    Changes s (cutFrame code s) := by
  have hcut : Changes s (s.withSeq { s.seq with cut := true }) :=
    .single (.seq (.running hs rfl rfl rfl rfl rfl fun _ => id))
  exact ((hcut.trans (reportAll_changes _ _ _ _)).trans (returnSpots_changes _)).trans (raise_changes _ _ _ _ _)

/-! ### The entry to STOPPED (R34) -/

/-- The sequencer stops, its votes being gone. -/
theorem enterStopped_changes {s : State} {q : Seq} (hspots : q.spots = s.seq.spots)
    (hslots : q.slots = s.seq.slots) (hvotes : ∀ n, q.votes.has n = true → s.seq.votes.has n = true)
    (hempty : VoteSeq s.seq → q.votes = ⟨false, false, false⟩) :
    Changes s (enterStopped (s.withSeq q)) := by
  have hstop : SeqChange (activateProfiles s) q.stopped :=
    ⟨hspots, .inl hslots, fun n h => .inl (hvotes n h),
      fun h => ⟨⟨fun _ => .inl rfl, fun _ => hempty h⟩, nofun, fun _ => ⟨rfl, rfl, rfl⟩⟩,
      fun _ _ h => (by rcases h with h | h <;> cases h), fun _ => .inr fun p => activateProfiles_staged p s⟩
  have hstopped : Changes s (sequencerStopped (s.withSeq q)) :=
    ((activateProfiles_changes s).tail (.seq hstop)).trans (freeClosing_changes _)
  rw [enterStopped_eq]
  exact (hstopped.trans (startStandalone_changes _)).trans (judgePower_changes _)

theorem beginConversion_seq (k : InputNo) (frame : Option FrameNo) (due : List Due) (s : State) :
    (beginConversion k frame due s).seq = s.seq := by
  rw [beginConversion_eq]
  rfl

theorem startStandalone_state (s : State) : (startStandalone s).seq.state = s.seq.state := by
  rcases startStandalone_cases s with h | ⟨e, rest, -, -, -, -, h⟩
  · rw [h]
  · rw [h, beginConversion_seq]
    rfl

theorem enterStopped_state (s : State) : (enterStopped s).seq.state = .stopped := by
  have h : (judgePower (startStandalone (sequencerStopped s))).seq = (startStandalone (sequencerStopped s)).seq := by
    rw [judgePower_eq]
  rw [enterStopped_eq, h, startStandalone_state, sequencerStopped, (freeClosing_kept _).1]
  rfl

theorem finishHalt_changes {s : State} (hs : s.seq.state = .halting) : Changes s (finishHalt s) := by
  have hstop : Changes s (enterStopped s) :=
    enterStopped_changes (q := s.seq) rfl rfl (fun _ => id) fun h => h.1.mpr (.inr hs)
  have hclear (t : State) (ht : t.seq.state = .stopped) : Changes t (t.withSeq { t.seq with haltCause := none }) :=
    .single (.seq ⟨rfl, .inl rfl, fun _ => .inl, fun ⟨hv, _, hr⟩ => ⟨hv, fun h => (by cases ht.symm.trans h), hr⟩,
      fun _ => id, fun _ => .inl ht⟩)
  rw [finishHalt]
  dsimp only
  split
  · exact hstop.trans (hclear _ (enterStopped_state s))
  · refine (hstop.trans (raise_changes _ _ _ _ _)).trans (hclear _ ?_)
    rw [raise_seq]
    exact enterStopped_state s

theorem nextFrame_changes (s : State) : Changes s (nextFrame s) := by
  rw [nextFrame]
  split
  next hs => exact beginFrame_changes (q := s.seq) (.inr hs) hs rfl rfl rfl
  next hs => exact finishHalt_changes hs
  next => exact .refl
  next => exact .refl

/-! ### Run votes (R28 to R30, R35) -/

theorem dropVote_changes (n : Port) (kind : HaltKind) (s : State) : Changes s (dropVote n kind s) := by
  have hsub (m : Port) (h : (s.seq.votes.drop n).has m = true) : s.seq.votes.has m = true := has_of_drop h
  rw [dropVote]
  dsimp only
  split
  next hempty =>
    have hnone : s.seq.votes.drop n = ⟨false, false, false⟩ := (PortSet.isEmpty_iff _).mp hempty
    rw [votesEmptied]
    dsimp only [State.withSeq_seq]
    split
    next => exact enterStopped_changes rfl rfl hsub fun _ => hnone
    next hs =>
      exact .single (.seq ⟨rfl, .inl rfl, fun m h => .inl (hsub m h),
        fun _ => ⟨⟨fun _ => .inr rfl, fun _ => hnone⟩, fun _ => by simp, nofun⟩,
        fun _ h _ => h (.inl hs), nofun⟩)
    next hs =>
      exact .single (.seq ⟨rfl, .inl rfl, fun m h => .inl (hsub m h),
        fun ⟨_, hc, hr⟩ => ⟨⟨fun _ => .inl hs, fun _ => hnone⟩, hc, hr⟩, fun _ => id, .inl⟩)
    next hs =>
      exact .single (.seq ⟨rfl, .inl rfl, fun m h => .inl (hsub m h),
        fun ⟨_, hc, hr⟩ => ⟨⟨fun _ => .inr hs, fun _ => hnone⟩, hc, hr⟩, fun _ => id, .inl⟩)
  next hsome =>
    have hleft : s.seq.votes.drop n ≠ ⟨false, false, false⟩ := fun h => hsome ((PortSet.isEmpty_iff _).mpr h)
    refine .single (.seq ⟨rfl, .inl rfl, fun m h => .inl (hsub m h), fun ⟨hv, hc, hr⟩ => ⟨?_, hc, hr⟩,
      fun _ => id, .inl⟩)
    refine ⟨fun h => absurd h hleft, fun h => ?_⟩
    have := hv.mpr h
    simp only [this]
    exact empty_drop n

theorem stopBlock_changes (n : Port) (s : State) : Changes s (stopBlock n s).2 := by
  rw [stopBlock]
  split
  · exact .refl
  · exact dropVote_changes n .stop s

theorem seqSessionEnd_changes (n : Port) (s : State) : Changes s (seqSessionEnd n s) := by
  rw [seqSessionEnd, spotSessionEnd]
  split
  · exact (dropVote_changes n .sessionEnd s).trans (removeSpots_changes _ _)
  · exact removeSpots_changes _ _

theorem runBlock_changes {n : Port} {s : State} (hn : Control n s) : Changes s (runBlock n s).2 := by
  have hvoters (m : Port) (h : (s.seq.votes.add n).has m = true) : s.seq.votes.has m = true ∨ Control m s :=
    (has_add_or h).symm.imp id fun (h : m = n) => h ▸ hn
  have hsome : s.seq.votes.add n ≠ ⟨false, false, false⟩ := add_ne_empty _ _
  have hvote (hs : s.seq.state = .starting ∨ s.seq.state = .running) :
      Changes s (s.withSeq { s.seq with votes := s.seq.votes.add n }) :=
    .single (.seq ⟨rfl, .inl rfl, hvoters, fun _ => .running hs hsome, fun _ => id, .inl⟩)
  rw [runBlock]
  dsimp only
  split
  next hs =>
    refine Relation.ReflTransGen.trans ?_ ((powerUp_changes _).trans (tryStart_changes _))
    exact .single (.seq ⟨rfl, .inl rfl, hvoters, fun _ => .running (.inl rfl) hsome,
      fun _ _ h => (by rcases h with h | h <;> cases h), nofun⟩)
  next hs => exact hvote (.inl hs)
  next hs => exact hvote (.inr hs)
  next hs =>
    exact .single (.seq ⟨rfl, .inl rfl, hvoters, fun _ => .running (.inr rfl) hsome,
      fun _ h _ => h (.inr hs), nofun⟩)

theorem configTimingBlock_changes (slots divider source timeout : Byte) (s : State) :
    Changes s (configTimingBlock slots divider source timeout s).2 := by
  rw [configTimingBlock]
  split
  next =>
    split
    · exact .refl
    next hs =>
      split
      · exact .refl
      next hfits =>
        have hstop := not_not.mp hs
        exact .single (.seq ⟨rfl, .inr (by simpa using hfits), fun _ => .inl, id,
          fun _ _ h => (by rcases h with h | h <;> cases hstop.symm.trans h), .inl⟩)
  next => exact .refl

/-! ### Timers and edges (R38, R39, R45, R46) -/

theorem frameExpiry_changes (s : State) : Changes s (frameExpiry s) := by
  rw [frameExpiry]
  split
  · exact .refl
  · split
    · exact (returnSpots_changes s).trans (nextFrame_changes _)
    · exact (returnSpots_changes s).trans (nextFrame_changes _)
    · exact .refl
    · exact .refl

theorem edgeInFrame_changes {s : State} (hs : s.seq.state ≠ .stopped) : Changes s (edgeInFrame s) := by
  have hend (code : EventCode) (t u : State) (ht : t.seq.state ≠ .stopped) (hu : Changes t u) :
      Changes t (if edgeIsEarly t then cutFrame code t else u) := by
    split
    · exact cutFrame_changes code ht
    · exact hu
  rw [edgeInFrame]
  split
  · exact (hend .syncEarly s _ hs (returnSpots_changes s)).trans (nextFrame_changes _)
  · have hlock : Changes s (s.withSeq { s.seq with
        sync := .locked, frameTimer := none, syncTimer := some (syncLoad s.seq) }) :=
      .single (.seq (.running hs rfl rfl rfl rfl rfl fun _ => id))
    exact (hlock.trans (hend .syncRegained (s.withSeq _) _ hs
      ((returnSpots_changes _).trans (raise_changes _ _ _ _ _)))).trans (nextFrame_changes _)
  · exact .refl
  · exact .refl

theorem takeEdge_changes (s : State) : Changes s (takeEdge s) := by
  rw [takeEdge]
  split
  · exact .refl
  · split
    next => exact .refl
    next hs =>
      rw [edgeInStarting]
      split
      · exact firstBoundary_changes hs rfl rfl rfl
      · exact .refl
    next hs => exact edgeInFrame_changes (by rw [hs]; decide)
    next hs => exact edgeInFrame_changes (by rw [hs]; decide)

theorem loseSync_changes {s : State} (hs : s.seq.state ≠ .stopped) : Changes s (loseSync s) :=
  (Relation.ReflTransGen.single (.seq (.running hs rfl rfl rfl rfl rfl fun _ => id))).trans
    (raise_changes _ _ _ _ _)

theorem loseSync_seq (s : State) :
    (loseSync s).seq = { s.seq with sync := .fallback, syncTimer := none } := by
  rw [loseSync, raise_eq]
  rfl

theorem syncExpiry_changes (s : State) : Changes s (syncExpiry s) := by
  have hframe (hs : s.seq.state ≠ .stopped) : Changes s (nextFrame (endFrame (loseSync s))) :=
    ((loseSync_changes hs).trans (returnSpots_changes _)).trans (nextFrame_changes _)
  rw [syncExpiry]
  split
  · exact .refl
  · split
    next => exact .refl
    next hs =>
      refine (loseSync_changes (by rw [hs]; decide)).trans
        (firstBoundary_changes_self ?_)
      rw [loseSync_seq]
      exact hs
    next hs => exact hframe (by rw [hs]; decide)
    next hs => exact hframe (by rw [hs]; decide)

/-! ### Warm-up, slots and completion (R37, R41, R60, R64) -/

theorem warmUpEnd_changes (refin : RefLevel) (s : State) : Changes s (warmUpEnd refin s) := by
  rw [warmUpEnd]
  dsimp only
  split
  next hwarm =>
    refine ((setRefin_changes refin s).tail (.converter { s.conv with power := .ready, warmUp := none }
      s.isel.routed s.isel.refOk refin fun ⟨hbusy, _, hrouted⟩ => ⟨?_, by simp, hrouted⟩)).trans
      (converterFree_changes _)
    have hidle : s.conv.conversion = none := by
      by_contra hne
      cases hwarm.symm.trans (hbusy.mpr hne)
    simp [hidle]
  next => exact setRefin_changes refin s

theorem launchSpots_key (slot : Nat) (l : List SpotEntry) :
    (launchSpots slot l).map SpotEntry.key = l.map SpotEntry.key :=
  map_key_of_map (fun e => by split <;> rfl) l

theorem slotBegin_changes (refin : RefLevel) (s : State) : Changes s (slotBegin refin s) := by
  have hrefin := setRefin_changes refin s
  rw [slotBegin]
  split
  · exact hrefin
  next h =>
    obtain ⟨hframe, hslot, hidle⟩ := not_or.mp h |>.imp id not_or.mp
    have hs : s.seq.state ≠ .stopped := fun h => hframe (by simp [inFrame, h])
    have hpass : Changes s ((setRefin refin s).withSeq { s.seq with slot := s.seq.slot + 1 }) :=
      hrefin.tail (.seq (.running hs rfl rfl rfl rfl rfl fun _ hseq hrun => by
        obtain ⟨_, hrest⟩ := hseq hrun
        exact ⟨Nat.lt_of_not_le hslot, hrest⟩))
    split
    · exact hpass
    next x _ =>
      split
      next hready =>
        exact (hpass.trans (setSpots_changes (l := launchSpots x.slot s.seq.spots) (launchSpots_key _ _))).trans
          (beginConversion_changes (s := setSpots _ _) _ _ _ hready)
      next => exact hrefin

theorem completeConversion_changes (vin : Level) (vref : RefLevel) (s : State) :
    Changes s (completeConversion vin vref s) := by
  have hrefin := setRefin_changes vref s
  rw [completeConversion]
  dsimp only
  split
  · exact hrefin
  next c hc =>
    have hfree : Changes (setRefin vref s) (countFree vin vref (setRefin vref s)) := by
      rw [countFree]
      split
      · exact .single (.useFree _)
      · exact .refl
    have hconv : (countFree vin vref (setRefin vref s)).conv.conversion ≠ none := by
      rw [countFree]
      split <;> exact fun h => by cases hc.symm.trans h
    have hpass (code : BitVec 12) (t : State) : Changes t (passToAsu c code t) := by
      rw [passToAsu]
      split
      · exact .refl
      · exact reportAll_changes _ _ _ _
    exact ((((hrefin.trans hfree).trans (releaseConverter_changes _ hconv)).trans (hpass _ _)).trans
      (completeSpots_changes _ _ _)).trans (converterFree_changes _)

end Sys2Proof.Machine
end

section
/-! SUPPORT. The blocks of the host commands as chains of changes, and how every command and event is taken: as a
chain of changes, or as one of the few operations on a session, a transaction or a reset. -/

namespace Sys2Proof.Machine

open Sys2Proof.Safety

/-! ### READ_SAMPLES and READ_EVENTS (R136, R143) -/

theorem readSamplesBlock_changes {n : Port} (a m : Byte) {s : State} (hn : Attached n s) :
    Changes s (readSamplesBlock n a m s).2 := by
  rw [readSamplesBlock]
  dsimp only
  split
  · exact .refl
  next =>
    rw [judgeAttn_setQueues]
    refine .single (.queues hn fun ⟨h1, h2, h3, h4, h5, h6, h7, h8, h9, _, _⟩ => ?_)
    exact ⟨by simp; omega, by simp [Config.samplesPerRead], by simp, h4, h5, h6, h7, h8, h9,
      fun h => (by cases h.symm.trans hn), attnCondition_iff _ _⟩

/-- The law of an event queue is a law of the codes in it. -/
theorem EventsLaw.of_codes {l k : List EventEntry} (h : EventsLaw l)
    (hk : k.map EventEntry.code = l.map EventEntry.code) : EventsLaw k := by
  obtain ⟨hlen, hold, hlast⟩ := h
  have hlength : k.length = l.length := by simpa using congrArg List.length hk
  refine ⟨hlength.trans_le hlen, fun e he => ?_, fun h16 => ?_⟩
  · have hmem : e.code ∈ (k.map EventEntry.code).dropLast := by
      rw [← List.map_dropLast]
      exact List.mem_map_of_mem he
    rw [hk, ← List.map_dropLast] at hmem
    obtain ⟨e', he', hcode⟩ := List.mem_map.mp hmem
    exact hcode ▸ hold e' he'
  · obtain ⟨e, he, hcode⟩ := hlast (hlength.symm.trans h16)
    have hget : (k.map EventEntry.code).getLast? = some e.code := by
      rw [hk, List.getLast?_map, he]
      rfl
    rw [List.getLast?_map] at hget
    obtain ⟨e', he', hcode'⟩ := Option.map_eq_some_iff.mp hget
    exact ⟨e', he', hcode'.trans hcode⟩

theorem EventsLaw.drop {l : List EventEntry} (a : Nat) (h : EventsLaw l) : EventsLaw (l.drop a) := by
  obtain ⟨hlen, hold, hlast⟩ := h
  cases a with
  | zero => exact ⟨hlen, hold, hlast⟩
  | succ a =>
    refine ⟨by simp; omega, fun e he => hold e ?_, fun h16 => ?_⟩
    · have hne : l.drop (a + 1) ≠ [] := fun h => by simp [h] at he
      rw [← List.take_append_drop (a + 1) l, List.dropLast_append_of_ne_nil hne]
      exact List.mem_append_right _ he
    · simp at h16
      omega

/-- What an acknowledged EVENTS_LOST leaves behind stands alone in the queue (R143). -/
theorem removeEvents_eventsLaw (fn : FrameNo) (a : Nat) {l : List EventEntry} (h : EventsLaw l) :
    EventsLaw (removeEvents fn a l) := by
  rw [removeEvents_of_lost_newest fn a h.2.1]
  cases he : (l.take a).getLast? with
  | none => simpa using h.drop a
  | some e =>
    rw [Option.elim_some, carryOver]
    split
    next hlost =>
      have hdrop : l.drop a = [] := by
        by_contra hne
        refine h.2.1 e ?_ hlost.1
        rw [← List.take_append_drop a l, List.dropLast_append_of_ne_nil hne]
        exact List.mem_append_left _ (List.mem_of_getLast? he)
      rw [hdrop]
      exact ⟨by simp, by simp, by simp⟩
    next => simpa using h.drop a

theorem readEventsBlock_changes {n : Port} (a m : Byte) {s : State} (hn : Attached n s) :
    Changes s (readEventsBlock n a m s).2 := by
  rw [readEventsBlock]
  dsimp only
  split
  · exact .refl
  next =>
    rw [judgeAttn_setQueues]
    refine .single (.queues hn fun ⟨h1, h2, h3, h4, h5, _, _, h8, h9, _, _⟩ => ?_)
    have hrest := removeEvents_eventsLaw s.seq.fn a.toNat ⟨h5, h8, h9⟩
    generalize removeEvents s.seq.fn a.toNat (s.queues n).events = rest at hrest
    have hk : min m.toNat Config.eventsPerRead ≤ 15 := Nat.min_le_right _ _
    generalize min m.toNat Config.eventsPerRead = k at hk
    have hcodes : ((rest.take k).map markReported ++ rest.drop k).map EventEntry.code = rest.map EventEntry.code := by
      have hmark : EventEntry.code ∘ markReported = EventEntry.code := funext fun e => by
        rw [Function.comp_apply, markReported]
        split <;> rfl
      rw [List.map_append, List.map_map, hmark, ← List.map_append, List.take_append_drop]
    obtain ⟨hlen, hold, hlast⟩ := hrest.of_codes hcodes
    exact ⟨h1, h2, h3, h4, hlen, by simp; omega, by simp, hold, hlast,
      fun h => (by cases h.symm.trans hn), attnCondition_iff _ _⟩

/-! ### Subscription commands (R8 to R17) -/

theorem createBlock_changes {n : Port} (b : ParamBytes) (options : Byte) {s : State} (hn : Control n s) :
    Changes s (createBlock n b options s).2 := by
  rw [createBlock]
  split
  next p persist deliver _ _ =>
    split
    · exact .refl
    next i hi =>
      have hfree : (s.record i).state = .free := beq_iff_eq.mp (List.find?_some (p := fun i => (s.record i).state == .free) hi)
      split
      · exact .refl
      next hmode =>
        split
        · exact .refl
        next hadmits =>
          have hreserved : (s.record i).reserved = none := by simp [SubRecord.reserved, hfree]
          refine .single (.claim (p := p) ⟨rfl, .inl ⟨hfree, rfl⟩, not_not.mp hmode, ?_, ⟨n, rfl, hn⟩, fun m hm => ?_⟩)
          · rw [hreserved]
            exact (admits_iff s none p).mp (by simpa [removeClaim] using hadmits)
          · have hdeliver : (if deliver = true then PortSet.empty.add n else PortSet.empty).has m = true := hm
            split at hdeliver
            · have hm : m = n := by simpa using hdeliver
              exact .inr (hm ▸ hn.1)
            · simp at hdeliver
  next => exact .refl

theorem live_iff (r : SubRecord) : r.live = true ↔ Live r := by
  cases h : r.state <;> simp [SubRecord.live, Live, h]

theorem modifyBlock_changes {n : Port} (id : Byte) (b : ParamBytes) {s : State} (hn : Control n s) :
    Changes s (modifyBlock n id b s).2 := by
  rw [modifyBlock]
  split
  next i p _ _ =>
    dsimp only
    split
    · exact .refl
    next hlive =>
      split
      · exact .refl
      next howner =>
        split
        · exact .refl
        next hmode =>
          split
          · exact .refl
          next hadmits =>
            exact .single (.claim (p := p) ⟨rfl, .inr ⟨(live_iff _).mp (by simpa using hlive), rfl, rfl, rfl⟩,
              not_not.mp hmode, (admits_iff s _ p).mp (by simpa using hadmits), ⟨n, not_not.mp howner, hn⟩,
              fun m hm => .inl hm⟩)
  next => exact .refl

theorem releaseBlock_changes (n : Port) (id : Byte) (s : State) : Changes s (releaseBlock n id s).2 := by
  rw [releaseBlock]
  split
  · exact .refl
  · dsimp only
    split
    · exact .refl
    · split
      · exact .refl
      · exact releaseRecord_changes _ s

theorem setReaders_changes {i : SubId} {readers : PortSet} {s : State}
    (h : ∀ m, readers.has m = true → (s.record i).readers.has m = true ∨ Attached m s) :
    Changes s (setReaders i readers s) :=
  .single (putRecord_change ⟨⟨rfl, rfl, rfl, rfl⟩, .inl ⟨rfl, rfl⟩, h⟩)

theorem joinBlock_changes {n : Port} (id : Byte) {s : State} (hn : Attached n s) :
    Changes s (joinBlock n id s).2 := by
  rw [joinBlock]
  split
  · exact .refl
  · dsimp only
    split
    · exact .refl
    · exact setReaders_changes fun m hm => (has_add_or hm).elim (fun h => .inr (h ▸ hn)) .inl

theorem leaveBlock_changes (n : Port) (id : Byte) (s : State) : Changes s (leaveBlock n id s).2 := by
  rw [leaveBlock]
  split
  · exact .refl
  · dsimp only
    split
    · exact .refl
    · split
      · exact .refl
      · exact setReaders_changes fun m hm => .inl (has_of_drop hm)

theorem adoptBlock_changes {n : Port} (id : Byte) {s : State} (hn : Control n s) :
    Changes s (adoptBlock n id s).2 := by
  rw [adoptBlock]
  split
  · exact .refl
  next i _ =>
    dsimp only
    split
    · exact .refl
    · split
      · exact .refl
      · have howner : Changes s (setOwner i n s) :=
          .single (putRecord_change ⟨⟨rfl, rfl, rfl, rfl⟩, .inr (.inl ⟨n, rfl, hn⟩), fun _ hm => .inl hm⟩)
        exact howner.trans (raise_changes _ _ _ _ _)

/-! ### Inputs, profiles and trip lines (R54, R93, R116, R121, R124) -/

theorem inputLine_lineInput (l : LineNo) : inputLine (lineInput l) = some l := by
  revert l; decide

theorem lineHolds_of {s : State} {l : LineNo} (h : (s.line l).state ≠ .disarmed) :
    lineHolds s (lineInput l) = true := by
  simpa [lineHolds, inputLine_lineInput] using h

theorem configInputBlock_changes (input mode polarity : Byte) (s : State) :
    Changes s (configInputBlock input mode polarity s).2 := by
  rw [configInputBlock]
  split
  next k m p _ _ _ =>
    dsimp only
    split
    · exact .refl
    next hline =>
      split
      · exact .refl
      next huse =>
        split
        · exact .refl
        next hholds =>
          have hunused : (s.input k).useCount = 0 := by
            by_contra hne
            exact huse (.inl hne)
          refine .single (.input hunused hunused fun htrip => ?_)
          rw [tripLaw_iff] at htrip ⊢
          obtain ⟨hlines, hpins⟩ := htrip
          refine ⟨fun l => ?_, fun j => ?_⟩
          · obtain ⟨h1, h2, h3, h4, h5, h6⟩ := hlines l
            refine ⟨h1, h2, h3, h4, fun harmed => ?_, h6⟩
            rw [State.setInput_input]
            split
            next hk =>
              have hmode := h5 harmed
              rw [hk] at hmode
              have hlock := lineHolds_of harmed
              rw [hk] at hlock
              by_contra hm
              exact hholds ⟨hmode, .inl (by rw [hmode]; exact hm), hlock⟩
            next => exact h5 harmed
          · have htripped : lineTripped (s.setInput k { s.input k with
                mode := m, polarity := polarityFor k p, drive := driveFor m (polarityFor k p) (lineTripped s k) }) j =
              lineTripped s j := rfl
            rw [State.setInput_input, htripped]
            split
            next hk =>
              subst hk
              exact ⟨fun hnone hm => hline ⟨hm, by simp [hnone]⟩, rfl⟩
            next => exact hpins j
  next => exact .refl

theorem setProfile_change {p : ProfileNo} {x : Profile} {s : State} (h : ProfileChange s p x) :
    Changes s (s.setProfile p x) := by
  refine .single (.profiles (ps := put s.asu.profiles p x) fun j => ?_)
  rw [put_getElem]
  split
  next hj => exact hj ▸ h
  next => exact ⟨fun _ => id, fun _ => .inl, fun _ => id⟩

theorem setProfileBlock_changes {n : Port} (index : Byte) (gain : BitVec 16) (offset : BitVec 24) {s : State}
    (hn : Control n s) : Changes s (setProfileBlock n index gain offset s).2 := by
  rw [setProfileBlock]
  split
  · exact .refl
  · dsimp only
    split
    · exact .refl
    next hzero =>
      split
      · exact setProfile_change ⟨fun h => absurd h hzero, fun _ => .inl, fun _ => id⟩
      next hrun =>
        split
        · exact .refl
        · exact setProfile_change ⟨fun h => absurd h hzero, fun v hv => .inr (Option.some.inj hv ▸ hn),
            fun h => absurd h hrun⟩

theorem armTripBlock_changes {n : Port} (line : Byte) {s : State} (hn : Control n s) :
    Changes s (armTripBlock n line s).2 := by
  rw [armTripBlock]
  split
  · exact .refl
  · split
    · exact .refl
    next hmode => exact armLine_changes (not_not.mp hmode) hn

theorem ackTripBlock_changes (n : Port) (line : Byte) (s : State) : Changes s (ackTripBlock n line s).2 := by
  rw [ackTripBlock]
  split
  · exact .refl
  · dsimp only
    split
    · exact .refl
    next hmember =>
      split
      · exact .refl
      next hstate =>
        exact (acknowledge_changes (by simpa using hmember) (not_not.mp hstate)).trans
          (judgeRelease_changes _ _ _ _)

theorem disarmTripBlock_changes (n : Port) (line : Byte) (s : State) :
    Changes s (disarmTripBlock n line s).2 := by
  rw [disarmTripBlock]
  split
  · exact .refl
  · dsimp only
    split
    · exact .refl
    · split
      · exact .refl
      next hstate => exact leaveArming_changes hstate

/-! ### How a host command is taken (R154, R157) -/

theorem Change.respond (n : Port) (tag : Byte) (r : Reply) (s : State) : Change s (respond n tag r s) :=
  .port ⟨⟨rfl, rfl, rfl, rfl, rfl⟩, rfl, rfl, rfl, rfl, rfl, rfl⟩

theorem restartTimer_changes (n : Port) (s : State) : Changes s (restartTimer n s) := by
  rw [restartTimer]
  split
  · exact .single (.port ⟨⟨rfl, rfl, rfl, rfl, rfl⟩, rfl, rfl, rfl, rfl, rfl, rfl⟩)
  · exact .refl

theorem discardFrame_changes (n : Port) (s : State) : Changes s (discardFrame n s) :=
  .single (.port ⟨⟨rfl, rfl, rfl, rfl, rfl⟩, rfl, rfl, rfl, rfl, rfl, rfl⟩)

theorem openCommand_changes (n : Port) (tag : Byte) (c : Option Instr) (s : State) :
    Changes s (openCommand n tag c s) :=
  .single (.port ⟨⟨rfl, rfl, rfl, rfl, rfl⟩, rfl, rfl, rfl, rfl, rfl, rfl⟩)

/-- A host command is taken by a chain of changes before its block and behind it, or without its block. -/
theorem hostCommand_cases {n : Port} {tag : Byte} {c : Instr} {block : State → Reply × State} {s t : State}
    (h : hostCommand n tag c block s = .next t) :
    Changes s t ∨ ∃ s1, Changes s s1 ∧ s1.resetting = none ∧ portCheck n c s1 = none ∧
      Changes (block s1).2 t := by
  rw [hostCommand, unlessReset] at h
  obtain rfl := Host.Outcome.next.inj h
  split
  · exact .inl .refl
  next hreset =>
    rw [takeCommand]
    split
    · exact .inl ((restartTimer_changes n s).trans (discardFrame_changes n _))
    next =>
      have hopen : Changes s (if (s.port n).holder = .pending then s
          else openCommand n tag (some c) (restartTimer n s)) := by
        split
        · exact .refl
        · exact (restartTimer_changes n s).trans (openCommand_changes n tag _ _)
      dsimp only
      generalize (if (s.port n).holder = .pending then s
        else openCommand n tag (some c) (restartTimer n s)) = s1 at hopen
      split
      · exact .inl (hopen.tail (.respond _ _ _ _))
      next hcheck =>
        refine .inr ⟨s1, hopen, ?_, hcheck, .single (.respond _ _ _ _)⟩
        rw [hopen.resetting]
        simpa using hreset

/-- A port that passes the checks of a command other than ATTACH is ATTACHED. -/
theorem attached_of_portCheck {n : Port} {c : Instr} {s : State} (h : portCheck n c s = none)
    (hc : isAttach c = false) : Attached n s := by
  rw [portCheck] at h
  cases hs : (s.port n).session with
  | attached => exact hs
  | detached =>
    rw [if_pos (⟨hs, hc⟩ : _ ∧ _)] at h
    split at h <;> cases h

/-- A port that passes the checks of a command that needs CONTROL is an ATTACHED CONTROL port. -/
theorem control_of_portCheck {n : Port} {c : Instr} {s : State} (h : portCheck n c s = none)
    (hc : isAttach c = false) (hneeds : needsControl c = true) : Control n s := by
  refine ⟨attached_of_portCheck h hc, ?_⟩
  rw [portCheck] at h
  cases hr : (s.port n).role with
  | control => rfl
  | monitor =>
    rw [if_pos (⟨hneeds, hr⟩ : _ ∧ _)] at h
    split at h
    · cases h
    · split at h <;> cases h

end Sys2Proof.Machine
end

section
/-! SUPPORT. How every command and event is taken: as a chain of changes, or as one of the few operations on a
session, a transaction or a reset. The laws that see no port controller and no queue are kept by all of them. -/

namespace Sys2Proof.Machine

open Sys2Proof.Safety

/-! ### The operations that are no chain of changes -/

/-- A change, or the beginning, the end or new settings of a session. -/
inductive SessionMove : State → State → Prop
  | change {s t : State} (h : Change s t) : SessionMove s t
  | opens {s : State} {n : Port} (label : BitVec 32) (timeout : Byte) (h : (s.port n).session = .detached) :
      SessionMove s (openSession n label timeout s)
  | ends {s : State} {n : Port} (cause : EndCause) (h : Attached n s) : SessionMove s (sessionEnd n cause s)
  | sets {s : State} {n : Port} (policy : Policy) (watermark : Nat) (mask : ClassMask) (timeout : Byte)
      (h : Attached n s) : SessionMove s (judgeAttn n (s.setPort n { s.port n with
        policy := policy, watermark := watermark, mask := mask, timeout := timeout, timer := timerFor timeout }))

/-- A chain of these. -/
abbrev SessionMoves : State → State → Prop := Relation.ReflTransGen SessionMove

theorem Changes.moves {s t : State} (h : Changes s t) : SessionMoves s t := by
  induction h with
  | refl => exact .refl
  | tail _ hbc ih => exact ih.tail (.change hbc)

/-- How a command or an event is taken. -/
inductive Taken : State → State → Prop
  | same (s : State) : Taken s s
  | moves {s t : State} (hreset : s.resetting = none) (h : SessionMoves s t) : Taken s t
  | starts (n : Port) (s : State) : Taken s (startTransaction n s)
  | ignores {s : State} {n : Port} (clocks : Nat)
      (h : (s.port n).transaction = .ignored ∨ (s.port n).transaction = .idle ∧ s.resetting ≠ none) :
      Taken s (closeIgnored n clocks s)
  | frame {s t : State} {n : Port} (copy : List Byte) (clocks : Nat)
      (h : (∃ p, (s.port n).transaction = .active copy p) ∨ s.resetting = none)
      (hrest : Changes (closeTransaction n copy clocks s) t) : Taken s t
  | reset (kind : ResetKind) (s : State) : Taken s (beginReset kind s)
  | resetEnd (b0 b1 b2 : Bool) (s : State) : Taken s (finishReset b0 b1 b2 s)

/-! ### Transactions -/

theorem dispatchFrame_changes (n : Port) (f : Frame) (s : State) : Changes s (dispatchFrame n f s) := by
  rw [dispatchFrame]
  split
  · exact (openCommand_changes _ _ _ _).tail (.respond _ _ _ _)
  · exact (openCommand_changes _ _ _ _).tail (.respond _ _ _ _)
  · dsimp only
    split
    · exact (openCommand_changes _ _ _ _).tail (.respond _ _ _ _)
    · exact openCommand_changes _ _ _ _

theorem takeBits_changes (n : Port) (p : Bool) (mosi : List Bool) (s : State) :
    Changes s (takeBits n p mosi s) := by
  rw [takeBits]
  split
  · exact .refl
  · split
    · rw [takeMalformed]
      split
      · exact discardFrame_changes n s
      · exact .single (.port ⟨⟨rfl, rfl, rfl, rfl, rfl⟩, rfl, rfl, rfl, rfl, rfl, rfl⟩)
    · rw [takeFrame]
      split
      · exact restartTimer_changes n s
      · split
        · exact (restartTimer_changes n s).trans (discardFrame_changes n _)
        · exact (restartTimer_changes n s).trans (dispatchFrame_changes n _ _)

theorem endTransaction_taken (n : Port) (mosi : List Bool) (s : State) : Taken s (endTransaction n mosi s) := by
  rw [endTransaction]
  split
  next h => exact .ignores _ (.inl h)
  next copy p h => exact .frame copy mosi.length (.inl ⟨p, h⟩) (takeBits_changes _ _ _ _)
  next h =>
    split
    next hreset => exact .ignores _ (.inr ⟨h, by simpa [Option.isSome_iff_ne_none] using hreset⟩)
    next hreset => exact .frame _ mosi.length (.inr (by simpa using hreset)) (takeBits_changes _ _ _ _)

/-! ### Every command and event -/

theorem Changes.taken {s t : State} (h : Changes s t) (hreset : s.resetting = none) : Taken s t :=
  .moves hreset h.moves

theorem unlessReset_taken {f : State → State} {s t : State} (h : unlessReset f s = .next t)
    (hf : s.resetting = none → SessionMoves s (f s)) : Taken s t := by
  obtain rfl := Host.Outcome.next.inj h
  split
  · exact .same s
  next hreset =>
    have hnone : s.resetting = none := by simpa using hreset
    exact .moves hnone (hf hnone)

section
variable {n : Port} {tag : Byte} {c : Instr} {block : State → Reply × State} {s t : State}

theorem hostCommand_moves (h : hostCommand n tag c block s = .next t)
    (hb : ∀ s1, portCheck n c s1 = none → SessionMoves s1 (block s1).2) : Taken s t := by
  by_cases hreset : s.resetting = none
  · obtain h | ⟨s1, hopen, -, hcheck, hrest⟩ := hostCommand_cases h
    · exact h.taken hreset
    · exact .moves hreset ((hopen.moves.trans (hb s1 hcheck)).trans hrest.moves)
  · rw [hostCommand_in_reset hreset] at h
    obtain rfl := Host.Outcome.next.inj h
    exact .same s

/-- A command whose block is a chain of changes for an ATTACHED port. -/
theorem hostCommand_attached (h : hostCommand n tag c block s = .next t) (hc : isAttach c = false)
    (hb : ∀ s1, Attached n s1 → Changes s1 (block s1).2) : Taken s t :=
  hostCommand_moves h fun s1 hcheck => (hb s1 (attached_of_portCheck hcheck hc)).moves

/-- A command whose block is a chain of changes for an ATTACHED CONTROL port. -/
theorem hostCommand_control (h : hostCommand n tag c block s = .next t) (hc : isAttach c = false)
    (hneeds : needsControl c = true) (hb : ∀ s1, Control n s1 → Changes s1 (block s1).2) : Taken s t :=
  hostCommand_moves h fun s1 hcheck => (hb s1 (control_of_portCheck hcheck hc hneeds)).moves

/-- A command whose block only answers. -/
theorem hostCommand_reads (h : hostCommand n tag c block s = .next t) (hb : ∀ s1, (block s1).2 = s1) : Taken s t :=
  hostCommand_moves h fun s1 _ => by rw [hb s1]

end

theorem sessionShares_changes (n : Port) (s : State) :
    Changes s (tripSessionEnd n (profileSessionEnd n (seqSessionEnd n (subSessionEnd n s)))) :=
  (((subSessionEnd_changes n s).trans (seqSessionEnd_changes n _)).trans (profileSessionEnd_changes n _)).trans
    (tripSessionEnd_changes n _)

theorem attachBlock_moves (n : Port) (label : BitVec 32) (timeout force : Byte) (s : State) :
    SessionMoves s (attachBlock n label timeout force s).2 := by
  rw [attachBlock]
  split
  · exact .refl
  · dsimp only
    split
    next hdetached => exact .single (.opens label timeout hdetached)
    next hattached =>
      split
      · refine (Relation.ReflTransGen.single (.ends .reattach hattached)).tail (.opens label timeout ?_)
        have hq (t : State) (hs : Changes (t.setPort n { t.port n with
            holder := .empty, overrun := false, inExec := none, label := 0, timeout := 0 })
            (controllerSessionEnd n .reattach t)) (ht : (t.port n).session = .detached) :
            ((controllerSessionEnd n .reattach t).port n).session = .detached := by
          rw [(hs.samePort n).session, State.setPort_port, if_pos rfl]
          exact ht
        refine hq _ (raise_changes _ _ _ _ _) ?_
        have hends := sessionShares_changes n (detachPort n s)
        have hport := (hends.samePort n).session
        rw [detachPort, State.setPort_port, if_pos rfl] at hport
        exact hport
      · exact .refl

theorem detachBlock_moves {n : Port} {s : State} (h : Attached n s) : SessionMoves s (detachBlock n s).2 := by
  have hends : SessionMove s (sessionEnd n .request s) := .ends .request h
  unfold detachBlock
  dsimp only
  exact .single hends

theorem setPortBlock_moves {n : Port} (policy watermark classMask timeout : Byte) {s : State} (h : Attached n s) :
    SessionMoves s (setPortBlock n policy watermark classMask timeout s).2 := by
  rw [setPortBlock]
  split
  · exact .single (.sets _ _ _ _ h)
  · exact .refl

/-- Every command and event is taken in one of these ways. -/
theorem exec_taken {c : Instr} {s t : State} (h : exec c s = .next t) : Taken s t := by
  cases c with
  | fetch n tag => exact unlessReset_taken h fun _ => (restartTimer_changes n s).moves
  | attach n tag label timeout force => exact hostCommand_moves h fun s1 _ => attachBlock_moves n _ _ _ s1
  | detach n tag =>
    exact hostCommand_moves h fun s1 hcheck => detachBlock_moves (attached_of_portCheck hcheck rfl)
  | setPort n tag policy watermark classMask timeout =>
    exact hostCommand_moves h fun s1 hcheck => setPortBlock_moves _ _ _ _ (attached_of_portCheck hcheck rfl)
  | readStatus n tag => exact hostCommand_reads h fun _ => rfl
  | create n tag params options => exact hostCommand_control h rfl rfl fun _ => createBlock_changes _ _
  | modify n tag id params => exact hostCommand_control h rfl rfl fun _ => modifyBlock_changes _ _
  | release n tag id => exact hostCommand_control h rfl rfl fun s1 _ => releaseBlock_changes n id s1
  | join n tag id => exact hostCommand_attached h rfl fun _ => joinBlock_changes id
  | leave n tag id => exact hostCommand_attached h rfl fun s1 _ => leaveBlock_changes n id s1
  | adopt n tag id => exact hostCommand_control h rfl rfl fun _ => adoptBlock_changes id
  | readSub n tag id =>
    refine hostCommand_reads h fun s1 => ?_
    rw [readSubBlock]
    split <;> rfl
  | readPlan n tag residue =>
    refine hostCommand_reads h fun s1 => ?_
    rw [readPlanBlock]
    split <;> rfl
  | run n tag => exact hostCommand_control h rfl rfl fun _ => runBlock_changes
  | stop n tag => exact hostCommand_control h rfl rfl fun s1 _ => stopBlock_changes n s1
  | configTiming n tag slots divider source timeout =>
    exact hostCommand_control h rfl rfl fun s1 _ => configTimingBlock_changes _ _ _ _ s1
  | spot n tag input spotTag profile timeout =>
    exact hostCommand_attached h rfl fun _ => spotBlock_changes _ _ _ _
  | cancelSpot n tag spotTag => exact hostCommand_attached h rfl fun s1 _ => cancelSpotBlock_changes n _ s1
  | configInput n tag input mode polarity =>
    exact hostCommand_control h rfl rfl fun s1 _ => configInputBlock_changes _ _ _ s1
  | readInputs n tag => exact hostCommand_reads h fun _ => rfl
  | setProfile n tag index gain offset => exact hostCommand_control h rfl rfl fun _ => setProfileBlock_changes _ _ _
  | readProfile n tag index =>
    refine hostCommand_reads h fun s1 => ?_
    rw [readProfileBlock]
    split <;> rfl
  | armTrip n tag line => exact hostCommand_control h rfl rfl fun _ => armTripBlock_changes line
  | ackTrip n tag line => exact hostCommand_control h rfl rfl fun s1 _ => ackTripBlock_changes n line s1
  | disarmTrip n tag line => exact hostCommand_control h rfl rfl fun s1 _ => disarmTripBlock_changes n line s1
  | readTrip n tag line =>
    refine hostCommand_reads h fun s1 => ?_
    rw [readTripBlock]
    split <;> rfl
  | readSamples n tag ack max => exact hostCommand_attached h rfl fun _ => readSamplesBlock_changes _ _
  | readEvents n tag ack max => exact hostCommand_attached h rfl fun _ => readEventsBlock_changes _ _
  | readLatest n tag ids =>
    refine hostCommand_reads h fun s1 => ?_
    rw [readLatestBlock]
    split <;> rfl
  | transactionStart n => exact Host.Outcome.next.inj h ▸ .starts n s
  | commandFrame n mosi => exact Host.Outcome.next.inj h ▸ endTransaction_taken n mosi s
  | sessionTimerExpiry n =>
    refine unlessReset_taken h fun _ => ?_
    unfold sessionExpiry
    dsimp only
    split
    next hrun => exact .single (.ends .timeout hrun.1)
    next => exact .refl
  | frameTimerExpiry => exact unlessReset_taken h fun _ => (frameExpiry_changes s).moves
  | syncEdge => exact unlessReset_taken h fun _ => (takeEdge_changes s).moves
  | syncTimerExpiry => exact unlessReset_taken h fun _ => (syncExpiry_changes s).moves
  | warmUpExpiry refin => exact unlessReset_taken h fun _ => (warmUpEnd_changes refin s).moves
  | slotStart refin => exact unlessReset_taken h fun _ => (slotBegin_changes refin s).moves
  | conversionComplete vin vref => exact unlessReset_taken h fun _ => (completeConversion_changes vin vref s).moves
  | reset kind => exact Host.Outcome.next.inj h ▸ .reset kind s
  | resetEnd b0 b1 b2 => exact Host.Outcome.next.inj h ▸ .resetEnd b0 b1 b2 s

/-- A step takes the command at the front of the queue, or idles. -/
theorem step_taken {s t : State} (h : step s = .next t) : t = s ∨ ∃ rest, Taken (s.withPending rest) t := by
  rw [step] at h
  split at h
  · exact .inl (Host.Outcome.next.inj h).symm
  · exact .inr ⟨_, exec_taken h⟩

/-- No command and no event stops the part. -/
theorem exec_next (c : Instr) (s : State) : ∃ t, exec c s = .next t := by
  cases c <;> exact ⟨_, rfl⟩

end Sys2Proof.Machine
end

section
/-! PROOF. The laws of the plan table, the use counts, the alarm sets, votes and converter, profiles and windows,
trip lines and spot queue are kept by every step. -/

namespace Sys2Proof.Machine

open Sys2Proof.Safety

/-! ### Laws that see no port controller and no queue -/

/-- The state with every block at its reset values (R170). -/
def blankState (refin : RefLevel) (hpc : Vector PortCtl 3) (r : Option ResetKind) (k : Nat) (l : List Instr) : State where
  isel := { refin := refin }
  hpc := hpc
  resetting := r
  freeCount := k
  pending := l

/-- A law that sees no port controller, no delivery queue, no reset and no queue of commands, is kept by every
change and holds when every block has its reset values. -/
structure BlockLaw (P : State → Prop) : Prop where
  change : ∀ {s t : State}, Change s t → P s → P t
  around : ∀ (s : State) (dlv : Dlv) (hpc : Vector PortCtl 3) (r : Option ResetKind) (l : List Instr),
    P s → P { s with dlv := dlv, hpc := hpc, resetting := r, pending := l }
  blank : ∀ (refin : RefLevel) (hpc : Vector PortCtl 3) (r : Option ResetKind) (k : Nat) (l : List Instr),
    P (blankState refin hpc r k l)

section
variable {P : State → Prop} (h : BlockLaw P) {s t : State}
include h

theorem BlockLaw.changes (hst : Changes s t) (hs : P s) : P t := Changes.keep h.change hst hs

theorem BlockLaw.setPort (n : Port) (p : PortCtl) (hs : P s) : P (s.setPort n p) :=
  h.around s s.dlv _ s.resetting s.pending hs

theorem BlockLaw.setQueues (n : Port) (q : PortQueues) (hs : P s) : P (s.setQueues n q) :=
  h.around s _ s.hpc s.resetting s.pending hs

theorem BlockLaw.sessionEnd (n : Port) (cause : EndCause) (hs : P s) : P (sessionEnd n cause s) := by
  have hdetached : P (detachPort n s) := h.setPort n _ hs
  have hshares := h.changes (sessionShares_changes n _) hdetached
  have hqueues := h.setQueues n {} hshares
  exact h.changes (raise_changes _ _ _ _ _) (h.setPort n _ hqueues)

theorem BlockLaw.move (hst : SessionMove s t) (hs : P s) : P t := by
  cases hst with
  | change hst => exact h.change hst hs
  | opens label timeout => exact h.setQueues _ _ (h.setPort _ _ hs)
  | ends cause => exact h.sessionEnd _ cause hs
  | sets policy watermark mask timeout => exact h.setQueues _ _ (h.setPort _ _ hs)

theorem BlockLaw.taken (hst : Taken s t) (hs : P s) : P t := by
  cases hst with
  | same => exact hs
  | moves _ hst =>
    induction hst with
    | refl => exact hs
    | tail _ hbc ih => exact h.move hbc ih
  | starts n =>
    rw [startTransaction.eq_def]
    dsimp only
    split
    · exact hs
    · exact hs
    · split
      · exact h.setPort n _ hs
      · exact h.setPort n _ hs
  | ignores clocks => exact h.setPort _ _ hs
  | frame copy clocks _ hrest => exact h.changes hrest (h.setPort _ _ hs)
  | reset kind => exact h.blank s.isel.refin _ _ s.freeCount s.pending
  | resetEnd b0 b1 b2 =>
    rw [finishReset]
    split
    · exact hs
    · exact h.around s s.dlv _ _ s.pending hs

theorem BlockLaw.step (hst : step s = .next t) (hs : P s) : P t := by
  obtain rfl | ⟨rest, hst⟩ := step_taken hst
  · exact hs
  · exact h.taken hst (h.around s s.dlv s.hpc s.resetting rest hs)

end

/-! ### The laws in the reset state -/

section
variable (refin : RefLevel) (hpc : Vector PortCtl 3) (r : Option ResetKind) (k : Nat) (l : List Instr)

theorem replicate_getElem {α : Type} {n : Nat} (x : α) (i : Fin n) : (Vector.replicate n x)[i] = x := by
  simp

theorem blank_record (i : SubId) : (blankState refin hpc r k l).record i = {} := replicate_getElem _ _
theorem blank_input (j : InputNo) : (blankState refin hpc r k l).input j = {} := replicate_getElem _ _
theorem blank_window (i : SubId) : (blankState refin hpc r k l).window i = none := replicate_getElem _ _
theorem blank_watch (i : SubId) : (blankState refin hpc r k l).watch i = none := replicate_getElem _ _
theorem blank_alarms (t : LineNo) : (blankState refin hpc r k l).alarms t = [] := replicate_getElem _ _
theorem blank_line (t : LineNo) : (blankState refin hpc r k l).line t = {} := replicate_getElem _ _
theorem blank_profile (p : ProfileNo) : (blankState refin hpc r k l).profile p = {} := replicate_getElem _ _
theorem blank_plan (x : Residue) (j : InputNo) : (blankState refin hpc r k l).subt.plan[x][j] = 0 := by
  have h : (blankState refin hpc r k l).subt.plan[x] = Vector.replicate 16 0 := replicate_getElem _ _
  rw [h]
  exact replicate_getElem _ _

theorem countIds_none {f : SubId → Bool} (h : ∀ i, f i = false) : countIds f = 0 := by
  simp [countIds, h]

theorem blank_planLaw : PlanLaw (blankState refin hpc r k l) := fun x j => by
  rw [blank_plan, countIds_none fun i => ?_]
  rw [blank_record]
  rfl

theorem blank_capacityLaw : CapacityLaw (blankState refin hpc r k l) := fun x => by
  simp only [blank_plan]
  exact Nat.zero_le _

theorem blank_useLaw : UseLaw (blankState refin hpc r k l) := fun j => by
  rw [blank_input, countIds_none fun i => by rw [blank_record]; rfl]
  exact ⟨rfl, fun _ => rfl⟩

theorem blank_alarmLaw : AlarmLaw (blankState refin hpc r k l) := fun t => by
  rw [blank_alarms]
  simp only [blank_watch]
  rfl

theorem blank_armedLaw : ArmedLaw (blankState refin hpc r k l) := fun t _ => blank_alarms refin hpc r k l t

theorem blank_voteLaw : VoteLaw (blankState refin hpc r k l) :=
  ⟨⟨fun _ => .inl rfl, fun _ => rfl⟩, nofun, fun _ => ⟨rfl, rfl, rfl⟩⟩

theorem blank_converterLaw : ConverterLaw (blankState refin hpc r k l) :=
  ⟨⟨nofun, fun h => absurd rfl h⟩, ⟨nofun, fun h => absurd rfl h⟩, rfl, fun h => by rcases h with h | h <;> cases h⟩

theorem blank_profileLaw : ProfileLaw (blankState refin hpc r k l) :=
  ⟨blank_profile refin hpc r k l 0, fun _ p => by rw [blank_profile]⟩

theorem blank_windowLaw : WindowLaw (blankState refin hpc r k l) := fun i => by
  rw [blank_record, blank_window, blank_watch]
  exact ⟨⟨nofun, nofun⟩, nofun, nofun, nofun, fun _ => rfl⟩

theorem blank_tripLaw : TripLaw (blankState refin hpc r k l) := by
  rw [tripLaw_iff]
  refine ⟨fun t => ?_, fun j => ?_⟩
  · rw [blank_line]
    exact ⟨fun _ => nofun, fun _ => rfl, within_empty _, fun _ => rfl, fun h => absurd rfl h, Nat.zero_le _⟩
  · rw [blank_input]
    exact ⟨fun _ => nofun, rfl⟩

theorem blank_spotLaw : SpotLaw (blankState refin hpc r k l) :=
  ⟨Nat.zero_le _, fun _ => Nat.zero_le _, List.nodup_nil⟩

end

/-! ### The laws of the blocks -/

theorem plan_blockLaw : BlockLaw fun s => PlanLaw s ∧ CapacityLaw s :=
  ⟨fun h hs => ⟨planLaw_kept h hs.1, capacityLaw_kept h hs.2⟩, fun _ _ _ _ _ hs => hs,
    fun _ _ _ _ _ => ⟨blank_planLaw _ _ _ _ _, blank_capacityLaw _ _ _ _ _⟩⟩

theorem use_blockLaw : BlockLaw UseLaw := ⟨useLaw_kept, fun _ _ _ _ _ hs => hs, blank_useLaw⟩

theorem alarm_blockLaw : BlockLaw fun s => AlarmLaw s ∧ ArmedLaw s :=
  ⟨fun h hs => ⟨alarmLaw_kept h hs.1, armedLaw_kept h hs.1 hs.2⟩, fun _ _ _ _ _ hs => hs,
    fun _ _ _ _ _ => ⟨blank_alarmLaw _ _ _ _ _, blank_armedLaw _ _ _ _ _⟩⟩

theorem vote_blockLaw : BlockLaw VoteLaw := ⟨voteLaw_kept, fun _ _ _ _ _ hs => hs, blank_voteLaw⟩

theorem converter_blockLaw : BlockLaw fun s => CapacityLaw s ∧ ConverterLaw s :=
  ⟨fun h hs => ⟨capacityLaw_kept h hs.1, converterLaw_kept h hs.1 hs.2⟩, fun _ _ _ _ _ hs => hs,
    fun _ _ _ _ _ => ⟨blank_capacityLaw _ _ _ _ _, blank_converterLaw _ _ _ _ _⟩⟩

theorem profile_blockLaw : BlockLaw ProfileLaw := ⟨profileLaw_kept, fun _ _ _ _ _ hs => hs, blank_profileLaw⟩

theorem window_blockLaw : BlockLaw WindowLaw := ⟨windowLaw_kept, fun _ _ _ _ _ hs => hs, blank_windowLaw⟩

theorem trip_blockLaw : BlockLaw TripLaw := ⟨tripLaw_kept, fun _ _ _ _ _ hs => hs, blank_tripLaw⟩

theorem spot_blockLaw : BlockLaw SpotLaw := ⟨spotLaw_kept, fun _ _ _ _ _ hs => hs, blank_spotLaw⟩

end Sys2Proof.Machine

namespace Sys2Proof.Proofs

open Sys2Proof.Machine Sys2Proof.Safety

/-- Settles O51: each change keeps both laws, and every step is a chain of changes but for ports and resets. -/
theorem planLawsKept : Obligations.PlanLawsKept := by
  unfold Obligations.PlanLawsKept
  exact fun s t hplan hcap h => plan_blockLaw.step h ⟨hplan, hcap⟩

/-- Settles O52, likewise. -/
theorem useLawKept : Obligations.UseLawKept := by
  unfold Obligations.UseLawKept
  exact fun s t hs h => use_blockLaw.step h hs

/-- Settles O53: an ARMED line's alarm set stays empty since the line trips before an id joins. -/
theorem alarmLawKept : Obligations.AlarmLawKept := by
  unfold Obligations.AlarmLawKept
  exact fun s t halarm harmed h => alarm_blockLaw.step h ⟨halarm, harmed⟩

/-- Settles O56: the law of the converter's frames needs that of the plan table's capacity. -/
theorem voteAndConverterLawsKept : Obligations.VoteAndConverterLawsKept := by
  unfold Obligations.VoteAndConverterLawsKept
  exact ⟨fun s t hs h => vote_blockLaw.step h hs,
    fun s t hs hcap h => (converter_blockLaw.step h ⟨hcap, hs⟩).2⟩

/-- Settles O57. -/
theorem profileAndWindowLawsKept : Obligations.ProfileAndWindowLawsKept := by
  unfold Obligations.ProfileAndWindowLawsKept
  exact ⟨fun s t hs h => profile_blockLaw.step h hs, fun s t hs h => window_blockLaw.step h hs⟩

/-- Settles O58. -/
theorem tripLawKept : Obligations.TripLawKept := by
  unfold Obligations.TripLawKept
  exact fun s t hs h => trip_blockLaw.step h hs

/-- Settles O59. -/
theorem spotLawKept : Obligations.SpotLawKept := by
  unfold Obligations.SpotLawKept
  exact fun s t hs h => spot_blockLaw.step h hs

end Sys2Proof.Proofs
end

section
/-! PROOF. The laws of delivery, of sessions, of a lasting reset and of MISOn are kept by every step; every law
holds in the reset state; every command is taken and leaves the queue of commands alone. -/

namespace Sys2Proof.Machine

open Sys2Proof.Safety

/-! ### Delivery (R130, R142, R144) -/

theorem QueueLaw.of_settings {p p' : PortCtl} {q : PortQueues} (hs : p'.session = p.session)
    (hw : p'.watermark = p.watermark) (h : QueueLaw p q) : QueueLaw p' q := by
  simp only [QueueLaw, hs, hw]
  exact h

/-- The queues of a DETACHED port. -/
theorem QueueLaw.detached {p : PortCtl} (h : p.session = .detached) : QueueLaw p {} := by
  refine ⟨Nat.zero_le _, Nat.zero_le _, le_rfl, Nat.zero_le _, Nat.zero_le _, Nat.zero_le _, le_rfl,
    by simp, nofun, fun _ => rfl, ?_⟩
  simp [h]

/-- ATTNn judged again for an ATTACHED port. -/
theorem QueueLaw.judged {p p' : PortCtl} {q : PortQueues} (h : QueueLaw p q) (hatt : p'.session = .attached) :
    QueueLaw p' { q with attn := attnCondition p' q } := by
  obtain ⟨h1, h2, h3, h4, h5, h6, h7, h8, h9, -, -⟩ := h
  exact ⟨h1, h2, h3, h4, h5, h6, h7, h8, h9, fun hd => (by cases hd.symm.trans hatt), attnCondition_iff _ _⟩

section
variable {s t : State}

theorem queueLaw_changes (h : Changes s t) (m : Port) (hs : QueueLaw (s.port m) (s.queues m)) :
    QueueLaw (t.port m) (t.queues m) :=
  Changes.keep (P := fun t => QueueLaw (t.port m) (t.queues m)) (fun hst hs => queueLaw_kept hst m hs) h hs

/-- A port's controller replaced, its session and watermark staying. -/
theorem queueLaw_setPort {n m : Port} {p : PortCtl} (hs : p.session = (s.port n).session)
    (hw : p.watermark = (s.port n).watermark) (h : QueueLaw (s.port m) (s.queues m)) :
    QueueLaw ((s.setPort n p).port m) ((s.setPort n p).queues m) := by
  rw [State.setPort_port]
  split
  next hm => exact QueueLaw.of_settings hs hw (hm ▸ h)
  next => exact h

/-- What a session end leaves in the queues: those of the ending port are empty, the others keep their law. -/
theorem queueLaw_sessionEnd (n : Port) (cause : EndCause) (m : Port) (h : QueueLaw (s.port m) (s.queues m)) :
    QueueLaw ((sessionEnd n cause s).port m) ((sessionEnd n cause s).queues m) := by
  have hshares := sessionShares_changes n (detachPort n s)
  have hport := (hshares.samePort n).session
  have hother (hm : m ≠ n) : QueueLaw ((detachPort n s).port m) ((detachPort n s).queues m) := by
    rw [detachPort, State.setPort_port, if_neg hm]
    exact h
  have hdetached : ((detachPort n s).port n).session = .detached := by
    rw [detachPort, State.setPort_port, if_pos rfl]
  have hlaw (hm : m ≠ n) := queueLaw_changes hshares m (hother hm)
  unfold sessionEnd
  generalize tripSessionEnd n _ = u at hport hlaw
  refine queueLaw_changes (raise_changes _ _ _ _ _) m (queueLaw_setPort rfl rfl ?_)
  rw [queueSessionEnd, State.setQueues_queues]
  split
  next hm =>
    subst hm
    exact QueueLaw.detached (hport.trans hdetached)
  next hm => exact hlaw hm

/-- The controller of a port that is then ATTACHED replaced, and ATTNn judged. -/
theorem queueLaw_judged {n : Port} {p : PortCtl} (hatt : p.session = .attached) (m : Port)
    (h : QueueLaw (s.port m) (s.queues m)) :
    QueueLaw ((judgeAttn n (s.setPort n p)).port m) ((judgeAttn n (s.setPort n p)).queues m) := by
  have hjudged : judgeAttn n (s.setPort n p) =
      (s.setPort n p).setQueues n { s.queues n with attn := attnCondition p (s.queues n) } := by
    rw [judgeAttn, State.setPort_port, if_pos rfl]
    rfl
  rw [hjudged, State.setQueues_queues, State.setQueues_port_kept, State.setPort_port]
  split
  next hm =>
    subst hm
    exact h.judged hatt
  next => exact h

theorem queueLaw_move (h : SessionMove s t) (m : Port) (hs : QueueLaw (s.port m) (s.queues m)) :
    QueueLaw (t.port m) (t.queues m) := by
  cases h with
  | change h => exact queueLaw_kept h m hs
  | @opens n label timeout h => exact queueLaw_judged rfl m hs
  | ends cause h => exact queueLaw_sessionEnd _ cause m hs
  | @sets n policy watermark mask timeout h =>
    refine queueLaw_judged ?_ m hs
    exact h

theorem queueLaw_taken (h : Taken s t) (m : Port) (hs : QueueLaw (s.port m) (s.queues m)) :
    QueueLaw (t.port m) (t.queues m) := by
  cases h with
  | same => exact hs
  | moves _ h =>
    induction h with
    | refl => exact hs
    | tail _ hbc ih => exact queueLaw_move hbc m ih
  | starts n =>
    rw [startTransaction.eq_def]
    dsimp only
    split
    · exact hs
    · exact hs
    · split
      · exact queueLaw_setPort rfl rfl hs
      · exact queueLaw_setPort rfl rfl hs
  | ignores clocks => exact queueLaw_setPort rfl rfl hs
  | frame copy clocks _ hrest => exact queueLaw_changes hrest m (queueLaw_setPort rfl rfl hs)
  | reset kind =>
    have hqueues : (beginReset kind s).queues m = {} := replicate_getElem _ _
    rw [beginReset_port, hqueues]
    exact QueueLaw.detached rfl
  | resetEnd b0 b1 b2 =>
    cases hr : s.resetting with
    | none =>
      have hsame : finishReset b0 b1 b2 s = s := by rw [finishReset, hr]
      rw [hsame]
      exact hs
    | some kind =>
      have hqueues : (finishReset b0 b1 b2 s).queues m = s.queues m := by
        rw [finishReset, hr]
        rfl
      rw [finishReset_port b0 b1 b2 m hr, hqueues]
      exact QueueLaw.of_settings rfl rfl hs

end

/-! ### MISOn (R150, R170, R171) -/

/-- The law of one port's MISOn. -/
def MisoOf (p : PortCtl) : Prop := p.miso = match p.transaction with
  | .idle => .highImpedance
  | .ignored => .highImpedance
  | .active copy _ => .driven (firstBit copy)

theorem misoLaw_iff (s : State) : MisoLaw s ↔ ∀ m, MisoOf (s.port m) := Iff.rfl

theorem MisoOf.congr {p p' : PortCtl} (hm : p'.miso = p.miso) (ht : p'.transaction = p.transaction)
    (h : MisoOf p) : MisoOf p' := by
  rw [MisoOf, hm, ht]
  exact h

/-- MISOn is high-impedance outside a transaction that is taken. -/
theorem MisoOf.high {p : PortCtl} (hm : p.miso = .highImpedance)
    (ht : p.transaction = .idle ∨ p.transaction = .ignored) : MisoOf p := by
  rcases ht with ht | ht <;> rw [MisoOf, ht] <;> exact hm

theorem MisoOf.isHigh {p : PortCtl} (h : MisoOf p) (ht : p.transaction = .idle ∨ p.transaction = .ignored) :
    p.miso = .highImpedance := by
  rw [MisoOf] at h
  rcases ht with ht | ht <;> rw [ht] at h <;> exact h

theorem spoil_idle_or_ignored (t : Transaction) : t.spoil = .idle ∨ t.spoil = .ignored := by
  cases t
  · exact .inl rfl
  · exact .inr rfl
  · exact .inr rfl

section
variable {s t : State}

/-- A port controller's pins along a session move. -/
theorem SessionMove.pins (h : SessionMove s t) (m : Port) :
    (t.port m).miso = (s.port m).miso ∧ (t.port m).transaction = (s.port m).transaction := by
  have hset (u : State) (n : Port) (p : PortCtl) (hm : p.miso = (u.port n).miso)
      (ht : p.transaction = (u.port n).transaction) :
      ((u.setPort n p).port m).miso = (u.port m).miso ∧
        ((u.setPort n p).port m).transaction = (u.port m).transaction := by
    rw [State.setPort_port]
    split
    next h => exact h ▸ ⟨hm, ht⟩
    next => exact ⟨rfl, rfl⟩
  have hchanges {u v : State} (h : Changes u v) :
      (v.port m).miso = (u.port m).miso ∧ (v.port m).transaction = (u.port m).transaction :=
    ⟨(h.samePort m).miso, (h.samePort m).transaction⟩
  cases h with
  | change h => exact hchanges (.single h)
  | opens label timeout h => exact hset s _ _ rfl rfl
  | @ends n cause h =>
    have hdetached := hset s n { s.port n with session := .detached, timer := none } rfl rfl
    have hshares := hchanges (sessionShares_changes n (detachPort n s))
    have hshared := And.intro (hshares.1.trans hdetached.1) (hshares.2.trans hdetached.2)
    unfold sessionEnd
    generalize tripSessionEnd n _ = u at hshared
    have hcontroller := hset (queueSessionEnd n u) n { (queueSessionEnd n u).port n with
      holder := .empty, overrun := false, inExec := none, label := 0, timeout := 0 } rfl rfl
    have hraised := hchanges (raise_changes PortSet.all .portDetached (portByte n) cause.value
      ((queueSessionEnd n u).setPort n { (queueSessionEnd n u).port n with
        holder := .empty, overrun := false, inExec := none, label := 0, timeout := 0 }))
    exact ⟨hraised.1.trans (hcontroller.1.trans hshared.1), hraised.2.trans (hcontroller.2.trans hshared.2)⟩
  | sets policy watermark mask timeout h => exact hset s _ _ rfl rfl

theorem misoOf_setPort {n m : Port} {p : PortCtl} (hp : MisoOf p) (h : MisoOf (s.port m)) :
    MisoOf ((s.setPort n p).port m) := by
  rw [State.setPort_port]
  split
  · exact hp
  · exact h

theorem misoLaw_taken (h : Taken s t) (hs : MisoLaw s) : MisoLaw t := by
  rw [misoLaw_iff] at hs ⊢
  intro m
  cases h with
  | same => exact hs m
  | moves _ h =>
    induction h with
    | refl => exact hs m
    | tail _ hbc ih =>
      obtain ⟨hmiso, htransaction⟩ := hbc.pins m
      exact ih.congr hmiso htransaction
  | starts n =>
    rw [startTransaction.eq_def]
    dsimp only
    split
    · exact hs m
    · exact hs m
    next hidle =>
      split
      · exact misoOf_setPort (.high ((hs n).isHigh (.inl hidle)) (.inr rfl)) (hs m)
      · exact misoOf_setPort (presented_firstBit _) (hs m)
  | @ignores _ n clocks h =>
    exact misoOf_setPort (.high ((hs n).isHigh (h.symm.imp And.left id)) (.inl rfl)) (hs m)
  | @frame _ _ n copy clocks _ hrest =>
    have hclosed : MisoOf ((closeTransaction n copy clocks s).port m) :=
      misoOf_setPort (.high rfl (.inl rfl)) (hs m)
    exact hclosed.congr (hrest.samePort m).miso (hrest.samePort m).transaction
  | reset kind =>
    rw [beginReset_port]
    exact .high rfl (spoil_idle_or_ignored _)
  | resetEnd b0 b1 b2 =>
    cases hr : s.resetting with
    | none =>
      have hsame : finishReset b0 b1 b2 s = s := by rw [finishReset, hr]
      rw [hsame]
      exact hs m
    | some kind =>
      rw [finishReset_port b0 b1 b2 m hr]
      exact .high rfl (spoil_idle_or_ignored _)

/-! ### A lasting reset (R170, R171) -/

theorem SessionMove.resetting (h : SessionMove s t) : t.resetting = s.resetting := by
  cases h with
  | change h => exact resetting_kept h
  | opens label timeout h => rfl
  | @ends n cause h =>
    have hshares := (sessionShares_changes n (detachPort n s)).resetting
    unfold sessionEnd
    generalize tripSessionEnd n _ = u at hshares
    exact ((raise_changes _ _ _ _ _).resetting).trans hshares
  | sets policy watermark mask timeout h => rfl

/-- A port controller while a reset lasts. -/
def ResetPort (p : PortCtl) : Prop :=
  p = { role := p.role, cause := p.cause, transaction := p.transaction, miso := .highImpedance,
        misoCarried := p.misoCarried } ∧ (p.transaction = .idle ∨ p.transaction = .ignored)

/-- A port controller whose transaction alone is another one, while a reset lasts. -/
theorem resetLaw_setPort {n : Port} {p : PortCtl} (h : ResetLaw s)
    (hp : ResetPort (s.port n) → ResetPort p) : ResetLaw (s.setPort n p) := by
  intro hreset
  obtain ⟨h1, h2, h3, h4, h5, h6, h7, h8, hports⟩ := h hreset
  refine ⟨h1, h2, h3, h4, h5, h6, h7, h8, fun m => ?_⟩
  rw [State.setPort_port]
  split
  · exact hp (hports n)
  · exact hports m

theorem resetLaw_taken (h : Taken s t) (hs : ResetLaw s) : ResetLaw t := by
  cases h with
  | same => exact hs
  | moves hreset h =>
    have hnone : t.resetting = none := by
      induction h with
      | refl => exact hreset
      | tail _ hbc ih => exact hbc.resetting.trans ih
    exact fun h => absurd hnone h
  | starts n =>
    rw [startTransaction.eq_def]
    dsimp only
    split
    · exact hs
    · exact hs
    · split
      · exact resetLaw_setPort hs fun hp => ⟨by rw [hp.1], .inr rfl⟩
      next hreset => exact fun h => absurd h (by simpa using hreset)
  | ignores clocks => exact resetLaw_setPort hs fun hp => ⟨by rw [hp.1], .inl rfl⟩
  | @frame _ _ n copy clocks hactive hrest =>
    intro hreset
    rw [hrest.resetting] at hreset
    obtain ⟨-, -, -, -, -, -, -, -, hports⟩ := hs hreset
    rcases hactive with ⟨p, hactive⟩ | hnone
    · rcases (hports n).2 with hi | hi <;> cases hi.symm.trans hactive
    · exact absurd hnone hreset
  | reset kind =>
    refine fun _ => ⟨rfl, rfl, rfl, rfl, rfl, rfl, rfl, rfl, fun m => ?_⟩
    rw [beginReset_port]
    exact ⟨rfl, spoil_idle_or_ignored _⟩
  | resetEnd b0 b1 b2 =>
    cases hr : s.resetting with
    | none =>
      have hsame : finishReset b0 b1 b2 s = s := by rw [finishReset, hr]
      rw [hsame]
      exact hs
    | some kind =>
      have hnone : (finishReset b0 b1 b2 s).resetting = none := by rw [finishReset, hr]
      exact fun h => absurd hnone h

end

/-! ### The session end (R24 to R26, R35, R78, R97, R126) -/

/-- What a fold establishes for each member at its turn and keeps at the others. -/
theorem foldl_establishes {α : Type} {f : State → α → State} {Inv : State → Prop} {P : α → State → Prop}
    (hinv : ∀ s a, Inv s → Inv (f s a)) (hturn : ∀ s a, Inv s → P a (f s a))
    (hkeep : ∀ s a b, Inv s → P a s → P a (f s b)) (l : List α) {s : State} (hs : Inv s) {a : α} (ha : a ∈ l) :
    P a (l.foldl f s) := by
  have hstays (l : List α) (s : State) (hs : Inv s) (h : P a s) : P a (l.foldl f s) := by
    induction l generalizing s with
    | nil => exact h
    | cons b l ih => exact ih _ (hinv s b hs) (hkeep s a b hs h)
  induction l generalizing s with
  | nil => cases ha
  | cons b l ih =>
    rcases List.mem_cons.mp ha with rfl | ha
    · exact hstays l _ (hinv s a hs) (hturn s a hs)
    · exact ih (hinv s b hs) ha

section
variable {s t : State} {ctl : Port → Prop}

theorem Changes.control (h : Changes s t) (n : Port) : Control n t ↔ Control n s :=
  (h.samePort n).control_iff

theorem Changes.attached (h : Changes s t) (n : Port) : Attached n t ↔ Attached n s :=
  (h.samePort n).attached_iff

/-- What the changes of ports in `ctl` keep, a chain of them keeps. -/
theorem Changes.keepIn {P : State → Prop} (hkept : ∀ {s t : State}, Change s t → (∀ n, Control n s → ctl n) → P s → P t)
    (h : Changes s t) (hctl : ∀ n, Control n s → ctl n) (hs : P s) : P t := by
  have hboth : (∀ n, Control n t → ctl n) ∧ P t :=
    h.keep (P := fun t => (∀ n, Control n t → ctl n) ∧ P t) (fun hst hs =>
      ⟨fun n hn => hs.1 n ((samePort_kept hst n).control_iff.mp hn), hkept hst hs.1 hs.2⟩) ⟨hctl, hs⟩
  exact hboth.2

/-- What the changes of ports in `att` keep, a chain of them keeps. -/
theorem Changes.keepAttached {P : State → Prop}
    (hkept : ∀ {s t : State}, Change s t → (∀ n, Attached n s → ctl n) → P s → P t)
    (h : Changes s t) (hatt : ∀ n, Attached n s → ctl n) (hs : P s) : P t := by
  have hboth : (∀ n, Attached n t → ctl n) ∧ P t :=
    h.keep (P := fun t => (∀ n, Attached n t → ctl n) ∧ P t) (fun hst hs =>
      ⟨fun n hn => hs.1 n ((samePort_kept hst n).attached_iff.mp hn), hkept hst hs.1 hs.2⟩) ⟨hatt, hs⟩
  exact hboth.2

/-- The owner of a record at its turn: no longer the ending port (R24, R25). -/
theorem recordSessionEnd_owner (n : Port) (i : SubId)
    (h : Live (s.record i) → OwnerIn ctl (s.record i)) :
    Live ((recordSessionEnd n i s).record i) → OwnerIn (fun m => ctl m ∧ m ≠ n) ((recordSessionEnd n i s).record i) := by
  have hclear : (clearOwner i s).record i = { s.record i with owner := none } :=
    (clearOwner_record i i s).trans (if_pos rfl)
  rw [recordSessionEnd]
  split
  next hother =>
    intro hlive
    have hin := h hlive
    cases ho : (s.record i).owner with
    | none =>
      rw [OwnerIn, ho] at hin
      exact .of_none ho hin
    | some m =>
      rw [OwnerIn, ho] at hin
      exact .of_some ho ⟨hin, fun hm => hother (hm ▸ ho)⟩
  next =>
    split
    next hpersist =>
      have hcleared : OwnerIn (fun m => ctl m ∧ m ≠ n) ((clearOwner i s).record i) := by
        rw [hclear]
        exact .of_none rfl hpersist
      split
      · rw [raise_eq]
        exact fun _ => hcleared
      · rw [raise_eq]
        exact fun _ => hcleared
      · exact fun _ => hcleared
      · exact fun _ => hcleared
    next =>
      rw [releaseRecord, hclear]
      split
      next hst =>
        rw [hclear]
        exact fun hl => by rcases hl with hl | hl <;> cases hst.symm.trans hl
      next hst =>
        rw [hclear]
        exact fun hl => by rcases hl with hl | hl <;> cases hst.symm.trans hl
      next =>
        rw [freeRecord_record]
        exact fun hl => by rcases hl with hl | hl <;> cases hl
      next =>
        split
        · rw [freeRecord_record]
          exact fun hl => by rcases hl with hl | hl <;> cases hl
        · rw [closeActive_record]
          exact fun hl => by rcases hl with hl | hl <;> cases hl

theorem mem_subIds (i : SubId) : i ∈ subIds := by simp [subIds]

theorem subSessionEnd_owners {n : Port} (hctl : ∀ m, Control m s → ctl m ∧ m ≠ n) (hs : OwnersIn ctl s)
    (ht : subSessionEnd n s = t) : OwnersIn (fun m => ctl m ∧ m ≠ n) t := by
  subst ht
  have hctl' {t : State} (h : Changes (dropReader n s) t) (m : Port) (hm : Control m t) : ctl m ∧ m ≠ n :=
    hctl m ((Changes.control ((dropReader_changes n s).trans h) m).mp hm)
  have hfirst : OwnersIn ctl (dropReader n s) :=
    Changes.keepIn ownersIn_kept (dropReader_changes n s) (fun m hm => (hctl m hm).1) hs
  have hall (l : List SubId) (i : SubId) (hi : i ∈ l) := foldl_establishes (f := fun t j => recordSessionEnd n j t)
    (Inv := fun t => Changes (dropReader n s) t ∧ OwnersIn ctl t)
    (P := fun i t => Live (t.record i) → OwnerIn (fun m => ctl m ∧ m ≠ n) (t.record i))
    (fun t j h => ⟨h.1.trans (recordSessionEnd_changes n j t), Changes.keepIn ownersIn_kept
      (recordSessionEnd_changes n j t) (fun m hm => (hctl' h.1 m hm).1) h.2⟩)
    (fun t j h => recordSessionEnd_owner n j (h.2 j))
    (fun t i j h hi => Changes.keepIn
      (P := fun t => Live (t.record i) → OwnerIn (fun m => ctl m ∧ m ≠ n) (t.record i))
      (fun hst hctl hs => ownerIn_kept hst i hctl hs) (recordSessionEnd_changes n j t) (hctl' h.1) hi)
    l ⟨.refl, hfirst⟩ hi
  have hmem := mem_subIds
  unfold subSessionEnd
  generalize subIds = l at hmem ⊢
  exact fun i => hall l i (hmem i)

theorem dropReader_readers (n : Port) (hs : ReadersIn ctl s) :
    ReadersIn (fun m => ctl m ∧ m ≠ n) (dropReader n s) := by
  intro i m hm
  have hrec : (dropReader n s).record i = { s.record i with readers := (s.record i).readers.drop n } :=
    tabulate_getElem _ _
  rw [hrec] at hm
  simp only [PortSet.has_drop, Bool.and_eq_true] at hm
  exact ⟨hs i m hm.2, by simpa using hm.1⟩

theorem enterStopped_votes (s : State) : (enterStopped s).seq.votes = s.seq.votes := by
  have hpower (t : State) : (judgePower t).seq = t.seq := by rw [judgePower_eq]
  have hstandalone (t : State) : (startStandalone t).seq.votes = t.seq.votes := by
    rcases startStandalone_cases t with h | ⟨e, rest, -, -, -, -, h⟩
    · rw [h]
    · rw [h, beginConversion_seq]
      rfl
  rw [enterStopped_eq, hpower, hstandalone, sequencerStopped, (freeClosing_kept _).1]
  rfl

theorem dropVote_votes (n : Port) (kind : HaltKind) (s : State) :
    (dropVote n kind s).seq.votes = s.seq.votes.drop n := by
  rw [dropVote]
  dsimp only
  split
  · rw [votesEmptied]
    split
    · rw [enterStopped_votes]
      rfl
    all_goals rfl
  · rfl

theorem removeSpots_spots (gone : SpotEntry → Bool) (s : State) :
    (removeSpots gone s).seq.spots = s.seq.spots.filter fun e => !gone e := by
  rw [removeSpots_eq, judgePower_eq]
  rfl

theorem seqSessionEnd_voters {n : Port} (hctl : ∀ m, Control m s → ctl m ∧ m ≠ n) (hs : VotersIn ctl s) :
    VotersIn (fun m => ctl m ∧ m ≠ n) (seqSessionEnd n s) := by
  rw [seqSessionEnd]
  split
  next =>
    have hdrop : VotersIn (fun m => ctl m ∧ m ≠ n) (dropVote n .sessionEnd s) := fun m hm => by
      rw [dropVote_votes] at hm
      simp only [PortSet.has_drop, Bool.and_eq_true] at hm
      exact ⟨hs m hm.2, by simpa using hm.1⟩
    have hctl' (m : Port) (hm : Control m (dropVote n .sessionEnd s)) : ctl m ∧ m ≠ n :=
      hctl m ((Changes.control (dropVote_changes n .sessionEnd s) m).mp hm)
    exact Changes.keepIn votersIn_kept (removeSpots_changes _ _) hctl' hdrop
  next hno =>
    have hwithout : VotersIn (fun m => ctl m ∧ m ≠ n) s := fun m hm =>
      ⟨hs m hm, fun e => hno (e ▸ hm)⟩
    exact Changes.keepIn votersIn_kept (removeSpots_changes _ _) hctl hwithout

theorem seqSessionEnd_spots {n : Port} (hatt : ∀ m, Attached m s → ctl m) (hs : SpotsIn ctl s) :
    SpotsIn (fun m => ctl m ∧ m ≠ n) (seqSessionEnd n s) := by
  have hremove (t : State) (ht : SpotsIn ctl t) : SpotsIn (fun m => ctl m ∧ m ≠ n) (spotSessionEnd n t) := by
    intro e he
    rw [spotSessionEnd, removeSpots_spots] at he
    obtain ⟨he, hport⟩ := List.mem_filter.mp he
    exact ⟨ht e he, by simpa using hport⟩
  rw [seqSessionEnd]
  split
  · exact hremove _ (Changes.keepAttached spotsIn_kept (dropVote_changes n .sessionEnd s) hatt hs)
  · exact hremove _ hs

theorem profileSessionEnd_stagers {n : Port} (hs : StagersIn ctl s) :
    StagersIn (fun m => ctl m ∧ m ≠ n) (profileSessionEnd n s) := by
  intro p v hv
  have hprofile : (profileSessionEnd n s).profile p = (s.profile p).forget n := tabulate_getElem _ _
  rw [hprofile] at hv
  obtain ⟨hv, hne⟩ := Profile.forget_staged hv
  exact ⟨hs p v hv, hne⟩

/-- A line at its turn: the ending port is no member of its arming set (R126). -/
theorem tripLineSessionEnd_arming {n : Port} {l : LineNo} (h : LineLaw (s.line l) (s.input (lineInput l)).mode) :
    ((tripLineSessionEnd n l s).line l).arming.has n = false := by
  rw [tripLineSessionEnd]
  split
  next hno => exact hno
  next =>
    split
    next hst =>
      obtain ⟨-, hempty, -⟩ := h
      rw [hempty hst]
      fin_cases n <;> rfl
    next =>
      rw [leaveArming, updateLine_line, if_pos rfl]
      simp
    next =>
      rw [judgeRelease]
      split
      · rw [releaseLine_eq]
        change ((updateLine l _ _).line l).arming.has n = false
        rw [updateLine_line, if_pos rfl, updateLine_line, if_pos rfl]
        simp
      · rw [updateLine_line, if_pos rfl]
        simp

theorem tripSessionEnd_armers {n : Port} (htrip : TripLaw s) (hctl : ∀ m, Control m s → ctl m ∧ m ≠ n)
    (hs : ArmersIn ctl s) : ArmersIn (fun m => ctl m ∧ m ≠ n) (tripSessionEnd n s) := by
  have hctl' {t : State} (h : Changes s t) (m : Port) (hm : Control m t) : ctl m ∧ m ≠ n :=
    hctl m ((Changes.control h m).mp hm)
  intro l
  unfold tripSessionEnd
  refine foldl_establishes (f := fun t j => tripLineSessionEnd n j t)
    (Inv := fun t => Changes s t ∧ TripLaw t ∧ ArmersIn ctl t)
    (P := fun l t => ∀ m, (t.line l).arming.has m = true → ctl m ∧ m ≠ n)
    (fun t j h => ?_) (fun t j h m hm => ?_) (fun t l j h hl => ?_) lineNos ⟨.refl, htrip, hs⟩ (List.mem_finRange l)
  all_goals obtain ⟨hst, htrip, harmers⟩ := h
  all_goals have hmove := tripLineSessionEnd_changes n j t
  · exact ⟨hst.trans hmove, hmove.keep tripLaw_kept htrip,
      Changes.keepIn armersIn_kept hmove (fun m hm => (hctl' hst m hm).1) harmers⟩
  · have hall : ArmersIn ctl (tripLineSessionEnd n j t) :=
      Changes.keepIn armersIn_kept hmove (fun m hm => (hctl' hst m hm).1) harmers
    have hno := tripLineSessionEnd_arming (n := n) (((tripLaw_iff t).mp htrip).1 j)
    exact ⟨hall j m hm, fun e => by rw [e, hno] at hm; cases hm⟩
  · exact Changes.keepIn (P := fun t => ∀ m, (t.line l).arming.has m = true → ctl m ∧ m ≠ n)
      (fun hst hctl hs => armerIn_kept hst l hctl hs) hmove (hctl' hst) hl

theorem detachPort_attached (n m : Port) : Attached m (detachPort n s) ↔ Attached m s ∧ m ≠ n := by
  rw [Attached, detachPort, State.setPort_port]
  by_cases hm : m = n
  · rw [if_pos hm]
    exact ⟨nofun, fun h => absurd hm h.2⟩
  · rw [if_neg hm]
    exact ⟨fun h => ⟨h, hm⟩, And.left⟩

theorem detachPort_control (n m : Port) : Control m (detachPort n s) ↔ Control m s ∧ m ≠ n := by
  rw [Control, detachPort_attached, detachPort, State.setPort_port]
  by_cases hm : m = n
  · exact ⟨fun h => absurd hm h.1.2, fun h => absurd hm h.2⟩
  · rw [if_neg hm, Control]
    tauto

/-- The shares of a session end leave nothing to the ending port (R24 to R26, R35, R78, R97, R126). -/
theorem sessionLaw_shares {n : Port} (hs : SessionLaw s) (htrip : TripLaw s) :
    SessionLaw (tripSessionEnd n (profileSessionEnd n (seqSessionEnd n (subSessionEnd n (detachPort n s))))) := by
  obtain ⟨howners, hreaders, hvoters, hspots, hstagers, harmers⟩ := (sessionLaw_iff s).mp hs
  have hall := sessionShares_changes n (detachPort n s)
  have htrip' : TripLaw (detachPort n s) := htrip
  generalize hu : detachPort n s = u at hall htrip'
  have hctl (m : Port) : Control m u → Control m s ∧ m ≠ n := hu ▸ (detachPort_control n m).mp
  have hatt (m : Port) : Attached m u → Attached m s ∧ m ≠ n := hu ▸ (detachPort_attached n m).mp
  have howners : OwnersIn (Control · s) u := hu ▸ howners
  have hreaders : ReadersIn (Attached · s) u := hu ▸ hreaders
  have hvoters : VotersIn (Control · s) u := hu ▸ hvoters
  have hspots : SpotsIn (Attached · s) u := hu ▸ hspots
  have hstagers : StagersIn (Control · s) u := hu ▸ hstagers
  have harmers : ArmersIn (Control · s) u := hu ▸ harmers
  have hsub := subSessionEnd_changes n u
  have hsub1 : Changes (dropReader n u) (subSessionEnd n u) :=
    Changes.foldl (fun s i => recordSessionEnd_changes n i s) subIds _
  have hreaders1 := Changes.keepAttached readersIn_kept hsub1
    (fun m hm => hatt m ((dropReader_changes n u).attached m |>.mp hm)) (dropReader_readers n hreaders)
  have hvoters1 := Changes.keepIn votersIn_kept hsub (fun m hm => (hctl m hm).1) hvoters
  have hspots1 := Changes.keepAttached spotsIn_kept hsub (fun m hm => (hatt m hm).1) hspots
  generalize hv : subSessionEnd n u = v at hsub hreaders1 hvoters1 hspots1 hall
  have howners1 := subSessionEnd_owners hctl howners hv
  have hctlv (m : Port) (hm : Control m v) := hctl m ((Changes.control hsub m).mp hm)
  have hattv (m : Port) (hm : Attached m v) := hatt m ((Changes.attached hsub m).mp hm)
  have hseq := seqSessionEnd_changes n v
  have hvoters2 := seqSessionEnd_voters hctlv hvoters1
  have hspots2 := seqSessionEnd_spots (n := n) (fun m hm => (hattv m hm).1) hspots1
  have hstagers2 := Changes.keepIn stagersIn_kept (hsub.trans hseq) (fun m hm => (hctl m hm).1) hstagers
  have hrest2 := (profileSessionEnd_changes n (seqSessionEnd n v)).trans
    (tripSessionEnd_changes n (profileSessionEnd n (seqSessionEnd n v)))
  have hrest1 := hseq.trans hrest2
  generalize seqSessionEnd n v = w at hseq hvoters2 hspots2 hstagers2 hrest2 hrest1 hall
  have huw := hsub.trans hseq
  have hctlw (m : Port) (hm : Control m w) := hctl m ((Changes.control huw m).mp hm)
  have hattw (m : Port) (hm : Attached m w) := hatt m ((Changes.attached huw m).mp hm)
  have hprofile := profileSessionEnd_changes n w
  have hstagers3 := profileSessionEnd_stagers (n := n) hstagers2
  have hrest3 := tripSessionEnd_changes n (profileSessionEnd n w)
  have htrip3 : TripLaw (profileSessionEnd n w) := Changes.keep tripLaw_kept (huw.trans hprofile) htrip'
  have harmers3 := Changes.keepIn armersIn_kept (huw.trans hprofile) (fun m hm => (hctl m hm).1) harmers
  generalize profileSessionEnd n w = x at hprofile hstagers3 hrest3 hrest2 hrest1 htrip3 harmers3 hall
  have hctlx (m : Port) (hm : Control m x) := hctlw m ((Changes.control hprofile m).mp hm)
  have harmers4 := tripSessionEnd_armers htrip3 hctlx harmers3
  have hback (m : Port) (hm : Control m s ∧ m ≠ n) : Control m (tripSessionEnd n x) :=
    (Changes.control hall m).mpr (hu ▸ (detachPort_control n m).mpr hm)
  have hbackAtt (m : Port) (hm : Attached m s ∧ m ≠ n) : Attached m (tripSessionEnd n x) :=
    (Changes.attached hall m).mpr (hu ▸ (detachPort_attached n m).mpr hm)
  refine (sessionLaw_iff _).mpr ⟨fun i hl => ?_, fun i m hm => ?_, fun m hm => ?_, fun e he => ?_,
    fun p v hv => ?_, fun l m hm => ?_⟩
  · exact (Changes.keepIn ownersIn_kept hrest1 hctlv howners1 i hl).mono hback
  · exact hbackAtt m (Changes.keepAttached readersIn_kept hrest1 hattv hreaders1 i m hm)
  · exact hback m (Changes.keepIn votersIn_kept hrest2 hctlw hvoters2 m hm)
  · exact hbackAtt _ (Changes.keepAttached spotsIn_kept hrest2 hattw hspots2 e he)
  · exact hback _ (Changes.keepIn stagersIn_kept hrest3 hctlx hstagers3 p v hv)
  · exact hback m (harmers4 l m hm)

/-- The law of sessions sees session and role of each port alone. -/
theorem sessionLaw_grow (h : SessionLaw s) (hisel : t.seq = s.seq) (hsubt : t.subt = s.subt)
    (hasu : t.asu = s.asu) (htripc : t.tripc = s.tripc) (hatt : ∀ m, Attached m s → Attached m t)
    (hrole : ∀ m, (t.port m).role = (s.port m).role) : SessionLaw t := by
  have hctl (m : Port) (hm : Control m s) : Control m t := ⟨hatt m hm.1, (hrole m).trans hm.2⟩
  obtain ⟨howners, hreaders, hvoters, hspots, hstagers, harmers⟩ := (sessionLaw_iff s).mp h
  have hrec (i : SubId) : t.record i = s.record i := by rw [State.record, hsubt]; rfl
  have hprofile (p : ProfileNo) : t.profile p = s.profile p := by rw [State.profile, hasu]; rfl
  have hline (l : LineNo) : t.line l = s.line l := by rw [State.line, htripc]; rfl
  refine (sessionLaw_iff t).mpr ⟨fun i hl => ?_, fun i m hm => ?_, fun m hm => ?_, fun e he => ?_,
    fun p v hv => ?_, fun l m hm => ?_⟩
  · rw [hrec] at hl ⊢
    exact (howners i hl).mono hctl
  · rw [hrec] at hm
    exact hatt m (hreaders i m hm)
  · rw [hisel] at hm
    exact hctl m (hvoters m hm)
  · rw [hisel] at he
    exact hatt _ (hspots e he)
  · rw [hprofile] at hv
    exact hctl _ (hstagers p v hv)
  · rw [hline] at hm
    exact hctl m (harmers l m hm)

/-- A controller replaced by one of the same role whose session has not ended. -/
theorem sessionLaw_setPort {n : Port} {p : PortCtl} (h : SessionLaw s) (hrole : p.role = (s.port n).role)
    (hsession : (s.port n).session = .attached → p.session = .attached) : SessionLaw (s.setPort n p) := by
  refine sessionLaw_grow h rfl rfl rfl rfl (fun m hm => ?_) fun m => ?_
  · rw [Attached, State.setPort_port]
    split
    next he => exact hsession (he ▸ hm)
    next => exact hm
  · rw [State.setPort_port]
    split
    next he => exact he ▸ hrole
    next => rfl

theorem sessionLaw_move (h : SessionMove s t) (htrip : TripLaw s) (hs : SessionLaw s) : SessionLaw t := by
  cases h with
  | change h => exact sessionLaw_kept h hs
  | @opens n label timeout h =>
    exact sessionLaw_setPort (p := { s.port n with
      session := .attached, label := label, timeout := timeout, timer := timerFor timeout,
      policy := .keepOldest, watermark := 1, mask := {}, cause := .none }) hs rfl fun _ => rfl
  | @ends n cause h =>
    have hshares := sessionLaw_shares (n := n) hs htrip
    unfold sessionEnd
    generalize tripSessionEnd n _ = u at hshares
    exact (raise_changes _ _ _ _ _).keep sessionLaw_kept
      (sessionLaw_setPort (s := queueSessionEnd n u) (p := { (queueSessionEnd n u).port n with
        holder := .empty, overrun := false, inExec := none, label := 0, timeout := 0 }) hshares rfl id)
  | @sets n policy watermark mask timeout h =>
    exact sessionLaw_setPort (p := { s.port n with
      policy := policy, watermark := watermark, mask := mask, timeout := timeout, timer := timerFor timeout })
      hs rfl id

/-- The law of sessions while every block holds its reset values. -/
theorem blank_sessionLaw (refin : RefLevel) (hpc : Vector PortCtl 3) (r : Option ResetKind) (k : Nat)
    (l : List Instr) : SessionLaw (blankState refin hpc r k l) := by
  have hnone (m : Port) : PortSet.has {} m = false := by fin_cases m <;> rfl
  refine (sessionLaw_iff _).mpr ⟨fun i hl => ?_, fun i m hm => ?_, fun m hm => ?_, fun e he => ?_,
    fun p v hv => ?_, fun t m hm => ?_⟩
  · rw [blank_record] at hl
    rcases hl with hl | hl <;> cases hl
  · rw [blank_record] at hm
    cases (hnone m).symm.trans hm
  · cases (hnone m).symm.trans hm
  · cases he
  · rw [blank_profile] at hv
    cases hv
  · rw [blank_line] at hm
    cases (hnone m).symm.trans hm

theorem sessionLaw_taken (h : Taken s t) (htrip : TripLaw s) (hreset : ResetLaw s) (hs : SessionLaw s) :
    SessionLaw t := by
  cases h with
  | same => exact hs
  | moves _ h =>
    have hboth : TripLaw t ∧ SessionLaw t := by
      induction h with
      | refl => exact ⟨htrip, hs⟩
      | tail _ hbc ih => exact ⟨trip_blockLaw.move hbc ih.1, sessionLaw_move hbc ih.1 ih.2⟩
    exact hboth.2
  | starts n =>
    rw [startTransaction.eq_def]
    dsimp only
    split
    · exact hs
    · exact hs
    · split
      · exact sessionLaw_setPort (p := { s.port n with transaction := .ignored }) hs rfl id
      · exact sessionLaw_setPort (p := { s.port n with
          transaction := .active (holderCopy (s.port n)) ((s.port n).holder == .pending),
          miso := presented (holderCopy (s.port n)) }) hs rfl id
  | @ignores _ n clocks h =>
    exact sessionLaw_setPort (p := { s.port n with
      transaction := .idle, misoCarried := carriedNothing clocks }) hs rfl id
  | @frame _ _ n copy clocks _ hrest =>
    exact hrest.keep sessionLaw_kept (sessionLaw_setPort (p := { s.port n with
      transaction := .idle, miso := .highImpedance, misoCarried := carriedBits copy clocks }) hs rfl id)
  | reset kind => exact blank_sessionLaw _ _ _ _ _
  | resetEnd b0 b1 b2 =>
    cases hr : s.resetting with
    | none =>
      have hsame : finishReset b0 b1 b2 s = s := by rw [finishReset, hr]
      rw [hsame]
      exact hs
    | some kind =>
      obtain ⟨-, -, hseq, hsubt, hasu, -, htripc, -, -⟩ := hreset (by rw [hr]; nofun)
      have hblank := blank_sessionLaw s.isel.refin (finishReset b0 b1 b2 s).hpc none 0 []
      refine sessionLaw_grow hblank ?_ ?_ ?_ ?_ (fun _ => id) fun _ => rfl
      all_goals rw [finishReset, hr]
      · exact hseq
      · exact hsubt
      · exact hasu
      · exact htripc

end

/-! ### The reset state -/

theorem reset_blank : State.reset = blankState 2500000 State.reset.hpc none 0 [] := rfl

theorem reset_port (m : Port) : State.reset.port m = freshPort (State.reset.port m).role := by
  fin_cases m <;> rfl

/-! ### The queue of commands -/

theorem SessionMove.pending {s t : State} (h : SessionMove s t) : t.pending = s.pending := by
  cases h with
  | change h => exact pending_kept h
  | opens label timeout h => rfl
  | @ends n cause h =>
    have hshares := (sessionShares_changes n (detachPort n s)).pending
    unfold sessionEnd
    generalize tripSessionEnd n _ = u at hshares
    exact ((raise_changes _ _ _ _ _).pending).trans hshares
  | sets policy watermark mask timeout h => rfl

theorem taken_pending {s t : State} (h : Taken s t) : t.pending = s.pending := by
  cases h with
  | same => rfl
  | moves _ h =>
    induction h with
    | refl => rfl
    | tail _ hbc ih => exact hbc.pending.trans ih
  | starts n =>
    rw [startTransaction.eq_def]
    dsimp only
    split
    · rfl
    · rfl
    · split <;> rfl
  | ignores clocks h => rfl
  | frame copy clocks _ hrest => exact hrest.pending
  | reset kind => rfl
  | resetEnd b0 b1 b2 =>
    rw [finishReset]
    split <;> rfl

end Sys2Proof.Machine

namespace Sys2Proof.Proofs

open Sys2Proof.Machine Sys2Proof.Safety

/-- Settles O54, port by port. -/
theorem deliveryLawKept : Obligations.DeliveryLawKept := by
  unfold Obligations.DeliveryLawKept
  intro s t hs h m
  obtain rfl | ⟨rest, hst⟩ := step_taken h
  · exact hs m
  · exact queueLaw_taken hst m (hs m)

/-- Settles O55: a session end lets go what the port held before the next change could count on the port. -/
theorem sessionAndResetLawsKept : Obligations.SessionAndResetLawsKept := by
  unfold Obligations.SessionAndResetLawsKept
  constructor
  · intro s t hreset hsession htrip h
    obtain rfl | ⟨rest, hst⟩ := step_taken h
    · exact ⟨hreset, hsession⟩
    · exact ⟨resetLaw_taken hst hreset, sessionLaw_taken hst htrip hreset hsession⟩
  · intro s t hmiso h
    obtain rfl | ⟨rest, hst⟩ := step_taken h
    · exact hmiso
    · exact misoLaw_taken hst hmiso

/-- Settles O2. -/
theorem everyCommandIsTaken : Obligations.EveryCommandIsTaken := by
  unfold Obligations.EveryCommandIsTaken
  intro c s
  obtain ⟨t, ht⟩ := exec_next c s
  exact ⟨t, ht, taken_pending (exec_taken ht)⟩

/-- Settles O1. -/
theorem stepTakesTheFront : Obligations.StepTakesTheFront := by
  unfold Obligations.StepTakesTheFront
  refine ⟨fun c rest s => rfl, fun s h => ?_⟩
  rw [step, h]

/-- Settles O60. -/
theorem lawsHoldAtReset : Obligations.LawsHoldAtReset := by
  unfold Obligations.LawsHoldAtReset
  have hmiso : MisoLaw State.reset := fun m => by rw [reset_port]; rfl
  have hdelivery : DeliveryLaw State.reset := fun m => by
    have hqueues : State.reset.queues m = {} := replicate_getElem _ _
    rw [reset_port, hqueues]
    exact QueueLaw.detached rfl
  rw [reset_blank] at hmiso hdelivery ⊢
  exact ⟨blank_planLaw _ _ _ _ _, blank_capacityLaw _ _ _ _ _, blank_useLaw _ _ _ _ _, blank_alarmLaw _ _ _ _ _,
    hdelivery, fun h => absurd rfl h, blank_sessionLaw _ _ _ _ _, blank_voteLaw _ _ _ _ _,
    blank_profileLaw _ _ _ _ _, blank_tripLaw _ _ _ _ _, blank_spotLaw _ _ _ _ _, blank_converterLaw _ _ _ _ _,
    blank_windowLaw _ _ _ _ _, hmiso, blank_armedLaw _ _ _ _ _⟩

end Sys2Proof.Proofs
end

section
/-! PROOF. The codec of host commands by Table 10-4 (R173, R175), in both directions. -/

namespace Sys2Proof.Machine

open Sys2Proof.Safety

/-! ### Fields and their bytes (R174) -/

theorem join_two (v : BitVec 16) : v.extractLsb' 8 8 ++ v.extractLsb' 0 8 = v :=
  (BitVec.extractLsb'_append_extractLsb'_eq_extractLsb' (x := v) (start₁ := 0) (len₁ := 8) (start₂ := 8)
    (len₂ := 8) rfl).trans BitVec.extractLsb'_eq_self

theorem join_three (v : BitVec 24) :
    v.extractLsb' 16 8 ++ v.extractLsb' 8 8 ++ v.extractLsb' 0 8 = v := by
  rw [BitVec.extractLsb'_append_extractLsb'_eq_extractLsb' (x := v) (start₁ := 8) (len₁ := 8) (start₂ := 16)
    (len₂ := 8) rfl]
  exact (BitVec.extractLsb'_append_extractLsb'_eq_extractLsb' (x := v) (start₁ := 0) (len₁ := 8) (start₂ := 8)
    (len₂ := 16) rfl).trans BitVec.extractLsb'_eq_self

theorem join_four (v : BitVec 32) :
    v.extractLsb' 24 8 ++ v.extractLsb' 16 8 ++ v.extractLsb' 8 8 ++ v.extractLsb' 0 8 = v := by
  rw [BitVec.extractLsb'_append_extractLsb'_eq_extractLsb' (x := v) (start₁ := 16) (len₁ := 8) (start₂ := 24)
    (len₂ := 8) rfl]
  exact (congrArg (fun x : BitVec 24 => x ++ v.extractLsb' 0 8)
    (BitVec.extractLsb'_append_extractLsb'_eq_extractLsb' (x := v) (start₁ := 8) (len₁ := 8) (start₂ := 16)
    (len₂ := 16) rfl)).trans ((BitVec.extractLsb'_append_extractLsb'_eq_extractLsb' (x := v) (start₁ := 0)
    (len₁ := 8) (start₂ := 8) (len₂ := 24) rfl).trans BitVec.extractLsb'_eq_self)

section
variable (a b c d : Byte)

theorem split_two : (a ++ b).extractLsb' 8 8 = a ∧ (a ++ b).extractLsb' 0 8 = b :=
  ⟨BitVec.extractLsb'_append_eq_left, BitVec.extractLsb'_append_eq_right⟩

theorem split_three : (a ++ b ++ c).extractLsb' 16 8 = a ∧ (a ++ b ++ c).extractLsb' 8 8 = b ∧
    (a ++ b ++ c).extractLsb' 0 8 = c := by
  obtain ⟨hhigh, hlow⟩ := split_two a b
  refine ⟨?_, ?_, BitVec.extractLsb'_append_eq_right⟩
  · rw [BitVec.extractLsb'_append_eq_of_le (by decide)]
    exact hhigh
  · rw [BitVec.extractLsb'_append_eq_of_le (by decide)]
    exact hlow

theorem split_four : (a ++ b ++ c ++ d).extractLsb' 24 8 = a ∧ (a ++ b ++ c ++ d).extractLsb' 16 8 = b ∧
    (a ++ b ++ c ++ d).extractLsb' 8 8 = c ∧ (a ++ b ++ c ++ d).extractLsb' 0 8 = d := by
  obtain ⟨hhigh, hmid, hlow⟩ := split_three a b c
  refine ⟨?_, ?_, ?_, BitVec.extractLsb'_append_eq_right⟩
  · rw [BitVec.extractLsb'_append_eq_of_le (by decide)]
    exact hhigh
  · rw [BitVec.extractLsb'_append_eq_of_le (by decide)]
    exact hmid
  · rw [BitVec.extractLsb'_append_eq_of_le (by decide)]
    exact hlow

end

/-- The parameter bytes of a set that has been read from sixteen bytes (R175). -/
theorem paramBytesOf_read (i p ph av pr wf l2 l1 l0 h2 h1 h0 y1 y0 db ln : Byte) :
    paramBytesOf ⟨i, p, ph, av, pr, wf, l2 ++ l1 ++ l0, h2 ++ h1 ++ h0, y1 ++ y0, db, ln⟩ =
      [i, p, ph, av, pr, wf, l2, l1, l0, h2, h1, h0, y1, y0, db, ln] := by
  obtain ⟨hl2, hl1, hl0⟩ := split_three l2 l1 l0
  obtain ⟨hh2, hh1, hh0⟩ := split_three h2 h1 h0
  obtain ⟨hy1, hy0⟩ := split_two y1 y0
  simp only [paramBytesOf, hl2, hl1, hl0, hh2, hh1, hh0, hy1, hy0]

/-! ### What a command's code and payload spell -/

/-- The code and the payload of a host command spell it (Table 10-4). -/
theorem decode_of_encode {i : Instr} {n : Port} {tag code : Byte} {payload : List Byte}
    (hw : i.wellFormed = true) (h : encodeCommand i = some (n, tag, code, payload)) :
    decodeCommand n tag code payload = .command i := by
  cases i <;> cases h
  case attach => simp [decodeCommand, join_four]
  case create => simp [decodeCommand, paramBytesOf, join_two, join_three]
  case modify => simp [decodeCommand, paramBytesOf, join_two, join_three]
  case setProfile => simp [decodeCommand, join_two, join_three]
  case readLatest =>
    have hlength : 1 ≤ payload.length ∧ payload.length ≤ Config.latestPerRead := by
      simpa [Instr.wellFormed] using hw
    exact if_pos hlength
  all_goals rfl

theorem encode_hostCommand {i : Instr} (h : i.isHostCommand = true) (hw : i.wellFormed = true) :
    ∃ n tag code payload, encodeCommand i = some (n, tag, code, payload) ∧ payload.length ≤ 124 := by
  cases i
  case readLatest n tag ids =>
    have hlength : 1 ≤ ids.length ∧ ids.length ≤ Config.latestPerRead := by simpa [Instr.wellFormed] using hw
    exact ⟨_, _, _, _, rfl, hlength.2.trans (by decide)⟩
  case transactionStart | commandFrame | sessionTimerExpiry | frameTimerExpiry | syncEdge | syncTimerExpiry |
    warmUpExpiry | slotStart | conversionComplete | reset | resetEnd => cases h
  all_goals exact ⟨_, _, _, _, rfl, by simp [paramBytesOf]⟩

/-- Nothing but its code and payload spells a command (Table 10-4). -/
theorem encode_of_decode {i : Instr} {n : Port} {tag code : Byte} {payload : List Byte}
    (h : decodeCommand n tag code payload = .command i) :
    encodeCommand i = some (n, tag, code, payload) ∧ i.isHostCommand = true ∧ i.wellFormed = true := by
  have hcode : code = BitVec.ofNat 8 code.toNat := BitVec.eq_of_toNat_eq (by simp)
  unfold decodeCommand at h
  split at h
  -- the fields of more than one byte, and READ_LATEST, whose length is checked
  case h_2 hk =>
    obtain rfl := hcode.trans (congrArg _ hk)
    split at h
    next a b c d _ _ =>
      cases h
      simp [encodeCommand, split_four, Instr.isHostCommand, Instr.wellFormed]
    · cases h
  case h_6 hk =>
    obtain rfl := hcode.trans (congrArg _ hk)
    split at h
    · cases h
      simp [encodeCommand, paramBytesOf_read, Instr.isHostCommand, Instr.wellFormed]
    · cases h
  case h_7 hk =>
    obtain rfl := hcode.trans (congrArg _ hk)
    split at h
    · cases h
      simp [encodeCommand, paramBytesOf_read, Instr.isHostCommand, Instr.wellFormed]
    · cases h
  case h_21 hk =>
    obtain rfl := hcode.trans (congrArg _ hk)
    split at h
    next g1 g0 o2 o1 o0 =>
      cases h
      simp [encodeCommand, split_two, split_three, Instr.isHostCommand, Instr.wellFormed]
    · cases h
  case h_29 hk =>
    obtain rfl := hcode.trans (congrArg _ hk)
    split at h
    next hlength =>
      cases h
      simpa [encodeCommand, Instr.isHostCommand, Instr.wellFormed] using hlength
    · cases h
  case h_30 => cases h
  -- every other command spells its payload byte by byte
  all_goals
    next hk =>
    obtain rfl := hcode.trans (congrArg _ hk)
    split at h
    · cases h
      exact ⟨rfl, rfl, rfl⟩
    · cases h

/-! ### Codes and lengths (R173) -/

theorem length_four {l : List Byte} (h : l.length = 4) : ∃ a b c d, l = [a, b, c, d] := by
  match l, h with
  | [a, b, c, d], _ => exact ⟨a, b, c, d, rfl⟩

theorem length_six {l : List Byte} (h : l.length = 6) : ∃ a b c d e f, l = [a, b, c, d, e, f] := by
  match l, h with
  | [a, b, c, d, e, f], _ => exact ⟨a, b, c, d, e, f, rfl⟩

theorem length_seventeen {l : List Byte} (h : l.length = 17) :
    ∃ a b c d e f g i j k m n o p q r t, l = [a, b, c, d, e, f, g, i, j, k, m, n, o, p, q, r, t] := by
  match l, h with
  | [a, b, c, d, e, f, g, i, j, k, m, n, o, p, q, r, t], _ =>
    exact ⟨a, b, c, d, e, f, g, i, j, k, m, n, o, p, q, r, t, rfl⟩

/-- The decoding d of a payload whose code has the one length `length` in Table 10-4. -/
def OneLength (d : CommandParse) (payload : List Byte) (length : Nat) : Prop :=
  (payload.length = length ∧ ∃ i, d = .command i) ∨ (payload.length ≠ length ∧ d = .badLength)

/-- What R173 says of the decoding d of a payload with a code. -/
def LengthChecked (d : CommandParse) (payload : List Byte) (code : Nat) : Prop :=
  (tableLength code = none ∧ d = .unknown) ∨
    ∃ least most, tableLength code = some (least, most) ∧
      if least ≤ payload.length ∧ payload.length ≤ most then ∃ i, d = .command i else d = .badLength

theorem lengthChecked_of_oneLength {d : CommandParse} {payload : List Byte} {code length : Nat}
    (hcode : tableLength code = some (length, length)) (h : OneLength d payload length) :
    LengthChecked d payload code := by
  refine .inr ⟨length, length, hcode, ?_⟩
  rcases h with ⟨hfits, hd⟩ | ⟨hother, hd⟩
  · rw [if_pos ⟨hfits.ge, hfits.le⟩]
    exact hd
  · rw [if_neg (by omega)]
    exact hd

theorem oneLength_other {payload : List Byte} {length : Nat} (h : payload.length ≠ length) :
    OneLength .badLength payload length := .inr ⟨h, rfl⟩

theorem oneLength_fits {i : Instr} {payload : List Byte} : OneLength (.command i) payload payload.length :=
  .inl ⟨rfl, i, rfl⟩

theorem decodeCommand_lengthChecked (n : Port) (tag code : Byte) (payload : List Byte) :
    LengthChecked (decodeCommand n tag code payload) payload code.toNat := by
  unfold decodeCommand
  split
  -- the commands without a payload
  case h_1 hk | h_3 hk | h_5 hk | h_14 hk | h_15 hk | h_20 hk =>
    rw [hk]
    refine lengthChecked_of_oneLength (length := 0) rfl ?_
    split
    · exact oneLength_fits
    next hother => exact oneLength_other fun h => hother (List.length_eq_zero_iff.mp h)
  -- a payload of one byte
  case h_8 hk | h_9 hk | h_10 hk | h_11 hk | h_12 hk | h_13 hk | h_18 hk | h_22 hk | h_23 hk | h_24 hk |
      h_25 hk | h_26 hk =>
    rw [hk]
    refine lengthChecked_of_oneLength (length := 1) rfl ?_
    split
    · exact oneLength_fits
    next hother =>
      refine oneLength_other fun h => ?_
      obtain ⟨a, rfl⟩ := List.length_eq_one_iff.mp h
      exact hother a rfl
  case h_27 hk | h_28 hk =>
    rw [hk]
    refine lengthChecked_of_oneLength (length := 2) rfl ?_
    split
    · exact oneLength_fits
    next hother =>
      refine oneLength_other fun h => ?_
      obtain ⟨a, b, rfl⟩ := List.length_eq_two.mp h
      exact hother a b rfl
  case h_19 hk =>
    rw [hk]
    refine lengthChecked_of_oneLength (length := 3) rfl ?_
    split
    · exact oneLength_fits
    next hother =>
      refine oneLength_other fun h => ?_
      obtain ⟨a, b, c, rfl⟩ := List.length_eq_three.mp h
      exact hother a b c rfl
  case h_4 hk | h_16 hk | h_17 hk =>
    rw [hk]
    refine lengthChecked_of_oneLength (length := 4) rfl ?_
    split
    · exact oneLength_fits
    next hother =>
      refine oneLength_other fun h => ?_
      obtain ⟨a, b, c, d, rfl⟩ := length_four h
      exact hother a b c d rfl
  case h_2 hk | h_21 hk =>
    rw [hk]
    refine lengthChecked_of_oneLength (length := 6) rfl ?_
    split
    · exact oneLength_fits
    next hother =>
      refine oneLength_other fun h => ?_
      obtain ⟨a, b, c, d, e, f, rfl⟩ := length_six h
      exact hother a b c d e f rfl
  case h_6 hk | h_7 hk =>
    rw [hk]
    refine lengthChecked_of_oneLength (length := 17) rfl ?_
    split
    · exact oneLength_fits
    next hother =>
      refine oneLength_other fun h => ?_
      obtain ⟨a, b, c, d, e, f, g, i, j, k, m, n, o, p, q, r, t, rfl⟩ := length_seventeen h
      exact hother a b c d e f g i j k m n o p q r t rfl
  -- READ_LATEST, of one to seven ids
  case h_29 hk =>
    rw [hk]
    refine .inr ⟨1, 7, rfl, ?_⟩
    by_cases hlength : 1 ≤ payload.length ∧ payload.length ≤ 7
    · rw [if_pos hlength]
      exact ⟨_, if_pos hlength⟩
    · rw [if_neg hlength]
      exact if_neg hlength
  case h_30 =>
    refine .inl ⟨?_, rfl⟩
    generalize code.toNat = k at *
    simp only [tableLength, List.mem_cons, List.not_mem_nil, or_false]
    grind

end Sys2Proof.Machine

namespace Sys2Proof.Proofs

open Sys2Proof.Machine Sys2Proof.Safety

/-- Settles O3: each direction by the row of Table 10-4 of the command's code. -/
theorem commandCodecAgrees : Obligations.CommandCodecAgrees := by
  refine ⟨fun i hhost hw => ?_, fun n tag code payload i h => encode_of_decode h⟩
  obtain ⟨n, tag, code, payload, hencode, hlength⟩ := encode_hostCommand hhost hw
  exact ⟨n, tag, code, payload, hencode, decode_of_encode hw hencode, hlength⟩

/-- Settles O4: by the rows of Table 10-4. -/
theorem codeAndLengthChecks : Obligations.CodeAndLengthChecks := by
  intro n tag code payload
  rcases decodeCommand_lengthChecked n tag code payload with ⟨hcode, h⟩ | ⟨least, most, hcode, h⟩
  · rw [hcode]
    exact h
  · rw [hcode]
    exact h

end Sys2Proof.Proofs
end

section
/-! PROOF. Frames, transactions and the answers of the port controller (chapter 9, R150 to R157). -/

namespace Sys2Proof.Machine

open Sys2Proof.Safety

/-! ### Bits and bytes of a transaction (R150, R151) -/

theorem byteOfBits_bits : ∀ b : Byte, byteOfBits (b.getLsbD 7) (b.getLsbD 6) (b.getLsbD 5) (b.getLsbD 4)
    (b.getLsbD 3) (b.getLsbD 2) (b.getLsbD 1) (b.getLsbD 0) = b := by decide

theorem gather_short {tail : List Bool} (h : tail.length < 8) : gather tail = [] := by
  unfold gather
  split
  · simp at h
    omega
  · rfl

theorem gather_cons (b : Byte) (rest : List Bool) : gather (bitsOf b ++ rest) = b :: gather rest := by
  simp only [bitsOf, List.cons_append, List.nil_append, gather, byteOfBits_bits]

theorem gather_bitStream (bytes : List Byte) {tail : List Bool} (h : tail.length < 8) :
    gather (bitStream bytes ++ tail) = bytes := by
  induction bytes with
  | nil => exact gather_short h
  | cons b rest ih =>
    rw [bitStream, List.flatMap_cons, List.append_assoc, gather_cons]
    exact congrArg (b :: ·) ih

/-- Eight bits are a byte (R151). -/
theorem gather_ne_nil {mosi : List Bool} (h : 8 ≤ mosi.length) : gather mosi ≠ [] := by
  unfold gather
  split
  · exact List.cons_ne_nil _ _
  next hshort =>
    obtain ⟨b, rest, rfl, hrest⟩ : ∃ b rest, mosi = b ++ rest ∧ b.length = 8 :=
      ⟨mosi.take 8, mosi.drop 8, (List.take_append_drop 8 mosi).symm, by simp [h]⟩
    match b, hrest with
    | [b7, b6, b5, b4, b3, b2, b1, b0], _ => exact absurd rfl (hshort b7 b6 b5 b4 b3 b2 b1 b0 rest)

/-! ### Well-formed frames (R151) -/

theorem frameBytes_eq (f : Frame) : frameBytes f =
    withCrc (f.code :: f.tag :: BitVec.ofNat 8 f.payload.length :: f.payload) := rfl

theorem toNat_ofNat_length {l : List Byte} (h : l.length ≤ 124) : (BitVec.ofNat 8 l.length).toNat = l.length := by
  rw [BitVec.toNat_ofNat]
  omega

theorem parseFrame_frameBytes {f : Frame} (h : f.payload.length ≤ 124) (k : Nat) :
    parseFrame (frameBytes f ++ List.replicate k 0xFF) = some f := by
  have hlength := toNat_ofNat_length h
  have hbytes : frameBytes f ++ List.replicate k 0xFF = f.code :: f.tag :: BitVec.ofNat 8 f.payload.length ::
      (f.payload ++ (twoBytes (crc (f.code :: f.tag :: BitVec.ofNat 8 f.payload.length :: f.payload)) ++
        List.replicate k 0xFF)) := by
    rw [frameBytes_eq, withCrc_eq]
    simp only [List.cons_append, List.append_assoc]
  rw [hbytes]
  simp only [parseFrame, hlength, List.take_left', List.drop_left', twoBytes, List.cons_append, List.nil_append,
    bytesOf_two]
  rw [if_pos ⟨h, by simp, trivial⟩]

theorem parseFrame_some {bytes : List Byte} {f : Frame} (h : parseFrame bytes = some f) :
    f.payload.length ≤ 124 ∧ ∃ k : Nat, bytes = frameBytes f ++ List.replicate k 0xFF := by
  unfold parseFrame at h
  split at h
  next code tag len rest =>
    dsimp only at h
    split at h
    next hi lo fill htrailer =>
      split at h
      next hchecks =>
        obtain ⟨hlimit, hfill, hcrc⟩ := hchecks
        cases h
        have hlength : (rest.take len.toNat).length = len.toNat := by
          have := congrArg List.length htrailer
          simp at this
          simp
          omega
        have hlen : BitVec.ofNat 8 (rest.take len.toNat).length = len := by rw [hlength, BitVec.ofNat_toNat]; rfl
        refine ⟨hlength.le.trans hlimit, fill.length, ?_⟩
        have hones : fill = List.replicate fill.length 0xFF :=
          List.eq_replicate_length.mpr fun b hb => by simpa using List.all_eq_true.mp hfill b hb
        have hrest : rest = rest.take len.toNat ++ hi :: lo :: fill := by
          rw [← htrailer, List.take_append_drop]
        have hbytes : bytesOf 2 (crc (code :: tag :: len :: rest.take len.toNat)).toNat = [hi, lo] := hcrc.symm
        calc code :: tag :: len :: rest
            = code :: tag :: len :: (rest.take len.toNat ++ hi :: lo :: fill) :=
              congrArg (code :: tag :: len :: ·) hrest
          _ = frameBytes ⟨code, tag, rest.take len.toNat⟩ ++ fill := by
              rw [frameBytes_eq, withCrc]
              simp only [hlen, hbytes, List.cons_append, List.append_assoc, List.nil_append]
          _ = _ := congrArg (_ ++ ·) hones
      · cases h
    · cases h
  · cases h

/-! ### The copy of the holder (R150, R172) -/

/-- The copy of the holder, with the status byte of Table 10-7 and the OVERRUN flag in its bit 7. -/
theorem holderCopy_row (p : PortCtl) :
    holderCopy p = (let head (st : Status) : Byte := if p.overrun then statusByte st ||| 0x80 else statusByte st
      match p.holder with
      | .empty => []
      | .pending => withCrc [head .pending, p.pendingTag, 0]
      | .ready r => withCrc ([head r.status, r.tag, BitVec.ofNat 8 r.payload.length] ++ r.payload)) := by
  unfold holderCopy
  cases p.holder with
  | empty => rfl
  | pending => rfl
  | ready r =>
    dsimp only
    rw [responseBytes, Status.value_table]
    rfl

theorem startTransaction_idle {n : Port} {s : State} (hup : s.resetting = none)
    (hidle : (s.port n).transaction = .idle) :
    startTransaction n s = withPort n { s.port n with
      transaction := .active (holderCopy (s.port n)) ((s.port n).holder == .pending)
      miso := presented (holderCopy (s.port n)) } s := by
  unfold startTransaction
  simp only [hidle, hup, Option.isSome_none, Bool.false_eq_true, if_false]
  rfl

/-- A frame that comes while SSn is high is taken as if SSn had fallen right before it (log 15). -/
theorem endTransaction_idle {n : Port} {s : State} (mosi : List Bool) (hup : s.resetting = none)
    (hidle : (s.port n).transaction = .idle) :
    endTransaction n mosi s = endTransaction n mosi (startTransaction n s) := by
  have hend : endTransaction n mosi s = takeBits n ((s.port n).holder == .pending) mosi
      (closeTransaction n (holderCopy (s.port n)) mosi.length s) := by
    unfold endTransaction
    simp only [hidle, hup, Option.isSome_none, Bool.false_eq_true, if_false]
  have hin : InTransaction n (holderCopy (s.port n)) ((s.port n).holder == .pending) (startTransaction n s) := by
    rw [startTransaction_idle hup hidle]
    exact ⟨hup, by rw [withPort_port, if_pos rfl]⟩
  rw [hend, endTransaction_inTransaction mosi hin, startTransaction_idle hup hidle, closeTransaction_eq,
    withPort_port, if_pos rfl, withPort_withPort]
  rfl

/-! ### Frames that are not executed, and frames that are (R151, R153, R155) -/

theorem takeBits_none (n : Port) (b : Bool) {mosi : List Bool} (h : mosi.length < 8) (s : State) :
    takeBits n b mosi s = s := by
  rw [takeBits, gather_short h]

theorem takeBits_malformed (n : Port) (b : Bool) {mosi : List Bool} (h : 8 ≤ mosi.length)
    (hbad : parseFrame (gather mosi) = none) (s : State) : takeBits n b mosi s = takeMalformed n b s := by
  unfold takeBits
  cases hbytes : gather mosi with
  | nil => exact absurd hbytes (gather_ne_nil h)
  | cons _ _ =>
    rw [hbytes] at hbad
    simp only [hbad]

theorem Frame.isFetch_iff (f : Frame) : f.isFetch = true ↔ f.code = 0 ∧ f.payload = [] := by
  simp [Frame.isFetch]

/-- Any frame but a FETCH restarts the session timer and then is discarded or handled (R153, R155). -/
theorem takeFrame_other {n : Port} {b : Bool} {f : Frame} {s : State} (h : ¬ (f.code = 0 ∧ f.payload = [])) :
    takeFrame n b f s = (if b then discardFrame n (withPort n (restartedPort (s.port n)) s)
      else dispatchFrame n f (withPort n (restartedPort (s.port n)) s)) := by
  unfold takeFrame
  dsimp only
  rw [if_neg (fun hfetch => h ((Frame.isFetch_iff f).mp hfetch)), restartTimer_eq]

theorem restartedPort_keeps (p : PortCtl) :
    (restartedPort p).session = p.session ∧ (restartedPort p).role = p.role := by
  unfold restartedPort
  split
  · exact ⟨rfl, rfl⟩
  · exact ⟨rfl, rfl⟩

/-- The checks of R157 on a command of Table 10-4 that has its length. -/
theorem portCheck_wellFormed {n : Port} {c : Instr} {s : State} (h : c.wellFormed = true) :
    portCheck n c s = (if (s.port n).session = .detached ∧ isAttach c = false then some .notAttached
      else if needsControl c = true ∧ (s.port n).role = .monitor then some .role else none) := by
  unfold portCheck
  rw [if_neg (by rw [h]; decide)]

/-- A frame whose command stands in PENDING, or is refused at once (R153, R157, log 6). -/
theorem dispatchFrame_eq (n : Port) (f : Frame) (p : PortCtl) (s : State) :
    dispatchFrame n f (withPort n p s) =
      (let refuse (st : Status) : State :=
        withPort n { p with overrun := false, pendingTag := f.tag, inExec := none,
                            holder := .ready ⟨st, f.tag, []⟩ } s
      match decodeCommand n f.tag f.code f.payload with
      | .unknown => refuse .unknownCommand
      | .badLength => refuse .badLength
      | .command c =>
        if p.session = .detached ∧ isAttach c = false then refuse .notAttached
        else if needsControl c = true ∧ p.role = .monitor then refuse .role
        else withPort n { p with overrun := false, pendingTag := f.tag, inExec := some c,
                                 holder := .pending } s) := by
  unfold dispatchFrame
  dsimp only
  cases hdecode : decodeCommand n f.tag f.code f.payload with
  | unknown =>
    simp only [openCommand_eq, respond_eq, withPort_port, withPort_withPort, if_true, Reply.refuse]
  | badLength =>
    simp only [openCommand_eq, respond_eq, withPort_port, withPort_withPort, if_true, Reply.refuse]
  | command c =>
    obtain ⟨-, -, hw⟩ := encode_of_decode hdecode
    dsimp only
    rw [portCheck_wellFormed hw]
    simp only [openCommand_eq, respond_eq, withPort_port, withPort_withPort, if_true, Reply.refuse]
    by_cases hdetached : p.session = .detached ∧ isAttach c = false
    · rw [if_pos hdetached, if_pos hdetached]
    · rw [if_neg hdetached, if_neg hdetached]
      by_cases hrole : needsControl c = true ∧ p.role = .monitor
      · rw [if_pos hrole, if_pos hrole]
      · rw [if_neg hrole, if_neg hrole]

/-! ### Refusals of the port controller (R157) -/

theorem exec_hostCommand {c : Instr} {n : Port} {tag code : Byte} {payload : List Byte}
    (h : encodeCommand c = some (n, tag, code, payload)) (hcode : code ≠ 0) (s : State) :
    ∃ block, exec c s = hostCommand n tag c block s := by
  cases c <;> cases h
  case fetch => exact absurd rfl hcode
  all_goals exact ⟨_, rfl⟩

/-! ### The session that an ATTACH begins (R160, R161) -/

theorem flagOf_of_ge {b : Byte} (h : 2 ≤ b.toNat) : flagOf b = none := by
  have hzero : b ≠ 0 := by
    rintro rfl
    exact absurd h (by decide)
  have hone : b ≠ 1 := by
    rintro rfl
    exact absurd h (by decide)
  rw [flagOf, if_neg hzero, if_neg hone]

theorem flagOf_of_lt {b : Byte} (h : b.toNat < 2) : ∃ f, flagOf b = some f := by
  by_cases hzero : b = 0
  · exact ⟨false, if_pos hzero⟩
  · have hone : b = 1 := by bv_omega
    exact ⟨true, (if_neg hzero).trans (if_pos hone)⟩

theorem portCheck_attach {n : Port} {tag : Byte} {label : BitVec 32} {timeout force : Byte} {s : State} :
    portCheck n (.attach n tag label timeout force) s = none := by
  simp [portCheck, Instr.wellFormed, isAttach, needsControl]

section
variable {n : Port} {label : BitVec 32} {timeout force : Byte} {s : State}

theorem attachBlock_badArgument (h : 2 ≤ force.toNat) :
    attachBlock n label timeout force s = (Reply.refuse .badArgument, s) := by
  rw [attachBlock, flagOf_of_ge h]

theorem attachBlock_already (ha : (s.port n).session = .attached) :
    attachBlock n label timeout 0 s = (Reply.refuse .already, s) := by
  unfold attachBlock
  rw [show flagOf 0 = some false from rfl]
  simp only [ha, Bool.false_eq_true, if_false]

theorem attachBlock_forced (ha : (s.port n).session = .attached) :
    attachBlock n label timeout 1 s = (Reply.ok (attachPayload n (s.port n)),
      openSession n label timeout (sessionEnd n .reattach s)) := by
  unfold attachBlock
  rw [show flagOf 1 = some true from rfl]
  simp only [ha, if_true]

theorem attachBlock_detached (hd : (s.port n).session = .detached) (hforce : force.toNat < 2) :
    attachBlock n label timeout force s = (Reply.ok (attachPayload n (s.port n)),
      openSession n label timeout s) := by
  obtain ⟨f, hf⟩ := flagOf_of_lt hforce
  unfold attachBlock
  simp only [hf, hd]

end

/-- The port controller p with the session that an ATTACH begins (R160, R161). -/
def sessionOpened (label : BitVec 32) (timeout : Byte) (p : PortCtl) : PortCtl :=
  { p with
    session := .attached, label := label, timeout := timeout,
    timer := if timeout = 0 then none else some timeout.toNat,
    policy := .keepOldest, watermark := 1, mask := ⟨true, true, true, true, true, true⟩, cause := .none }

/-- A session begun changes its own port controller, and judges ATTNn. -/
theorem openSession_eq (n : Port) (label : BitVec 32) (timeout : Byte) (s : State) :
    openSession n label timeout s = judgeAttn n (withPort n (sessionOpened label timeout (s.port n)) s) := rfl

/-- With its queues empty the port of a session begun has nothing to tell (R144). -/
theorem judgeAttn_sessionOpened {n : Port} {p : PortCtl} {label : BitVec 32} {timeout : Byte} {s : State}
    (h : s.queues n = {}) :
    judgeAttn n (withPort n (sessionOpened label timeout p) s) = withPort n (sessionOpened label timeout p) s := by
  have hport : (withPort n (sessionOpened label timeout p) s).port n = sessionOpened label timeout p := by
    rw [withPort_port, if_pos rfl]
  have hqueues : (withPort n (sessionOpened label timeout p) s).queues n = {} := h
  have hkept : put s.dlv.queues n ({} : PortQueues) = s.dlv.queues := by
    rw [← h]
    exact put_self _ _
  rw [judgeAttn_eq, hport, hqueues]
  exact congrArg (fun q => { withPort n (sessionOpened label timeout p) s with dlv := { s.dlv with queues := q } })
    hkept

theorem openedPort_cause (tag : Byte) (c : Instr) (p : PortCtl) : (openedPort tag c p).cause = p.cause := by
  unfold openedPort restartedPort
  split
  · rfl
  · split
    · rfl
    · rfl

theorem attachPayload_opened (n : Port) (tag : Byte) (c : Instr) (p : PortCtl) :
    attachPayload n (openedPort tag c p) = [0x16, 0x40, 0x01, BitVec.ofNat 8 n.val, p.role.value, p.cause.value,
      16, 32, 4, 8, 64, 16, 8, 4, 124] := by
  unfold attachPayload
  rw [openedPort_role, openedPort_cause]
  rfl

/-- The state in which an answered port's session has begun. -/
theorem openSession_answered (n : Port) (tag : Byte) (label : BitVec 32) (timeout force : Byte) (l : List Byte)
    (p : PortCtl) :
    { sessionOpened label timeout (openedPort tag (.attach n tag label timeout force) p) with
      holder := .ready ⟨.ok, tag, l⟩, inExec := none } =
    sessionOpened label timeout (answeredPort p tag .ok l) := by
  rw [← openedPort_answered]
  rfl

end Sys2Proof.Machine

namespace Sys2Proof.Proofs

open Sys2Proof.Machine Sys2Proof.Safety

/-- Settles O5: a frame's bytes read back through its length field, and nothing else passes the checks. -/
theorem wellFormedFrames : Obligations.WellFormedFrames :=
  ⟨fun _ => rfl, fun _ => rfl, fun bytes _tail htail => ⟨gather_bitStream bytes htail, fun _f =>
    ⟨parseFrame_some, fun ⟨hlength, k, hbytes⟩ => hbytes ▸ parseFrame_frameBytes hlength k⟩⟩⟩

/-- Settles O7: the copy by the holder state, and a frame without a fall of SSn by what the fall would have
done. -/
theorem transactionStartCopies : Obligations.TransactionStartCopies := by
  intro n s hup hidle
  have hstart := startTransaction_idle hup hidle
  rw [presented_firstBit, holderCopy_row] at hstart
  refine ⟨congrArg Host.Outcome.next (hstart.trans ?_), fun mosi => ?_⟩
  · rfl
  · exact (congrArg Host.Outcome.next ((endTransaction_idle mosi hup hidle).trans
      (congrArg (endTransaction n mosi) (hstart.trans rfl))))

/-- Settles O8: the frame restarts the timer, and its command is opened and checked. -/
theorem commandFrameDispatch : Obligations.CommandFrameDispatch := by
  intro n mosi copy f s hin hparse hfetch
  obtain ⟨hsession, hrole⟩ : (restartedPort (closedPort copy mosi.length (s.port n))).session =
      (s.port n).session ∧ (restartedPort (closedPort copy mosi.length (s.port n))).role = (s.port n).role :=
    restartedPort_keeps _
  have hend := (endTransaction_inTransaction mosi hin).trans ((takeBits_frame hparse).trans
    ((takeFrame_other hfetch).trans (if_neg Bool.false_ne_true)))
  rw [withPort_port, if_pos rfl, withPort_withPort, dispatchFrame_eq] at hend
  refine congrArg Host.Outcome.next (hend.trans ?_)
  cases decodeCommand n f.tag f.code f.payload with
  | unknown => rfl
  | badLength => rfl
  | command c =>
    dsimp only
    simp only [hsession, hrole]

/-- Settles O10: by what the bits of the transaction spell. -/
theorem framesNotExecuted : Obligations.FramesNotExecuted := by
  intro n mosi copy b s hin
  have hend := endTransaction_inTransaction mosi hin
  refine ⟨fun hshort => ?_, fun hlong hbad => ?_, fun f hb hparse hfetch => ?_⟩
  · exact congrArg Host.Outcome.next (hend.trans (takeBits_none n b hshort _))
  · refine congrArg Host.Outcome.next (hend.trans ((takeBits_malformed n b hlong hbad _).trans ?_))
    unfold takeMalformed
    cases b
    · simp only [Bool.false_eq_true, if_false]
      rw [withPort_port, if_pos rfl]
      exact withPort_withPort n _ _ s
    · simp only [if_true]
      rw [discardFrame_eq, withPort_port, if_pos rfl, withPort_withPort]
  · subst hb
    refine congrArg Host.Outcome.next (hend.trans ((takeBits_frame hparse).trans
      ((takeFrame_other hfetch).trans ?_)))
    simp only [if_true, discardFrame_eq, withPort_port, withPort_withPort]

/-- Settles O11: a refusal of the checks of R157 answers and does nothing else. -/
theorem portRefusals : Obligations.PortRefusals := by
  intro n tag code payload c s hencode hcode hw hfree
  obtain ⟨block, hexec⟩ := exec_hostCommand hencode hcode s
  refine ⟨fun hdetached hattach => ?_, fun hattached hneeds hrole => ?_⟩
  · rw [hexec]
    exact hostCommand_refused hfree ((portCheck_wellFormed hw).trans (if_pos ⟨hdetached, hattach⟩))
  · rw [hexec]
    refine hostCommand_refused hfree ((portCheck_wellFormed hw).trans ?_)
    rw [if_neg (by rw [hattached]; simp), if_pos ⟨hneeds, hrole⟩]

/-- Settles O12: the ways out of ATTACH; the accepted one answers and begins the session at once. -/
theorem attachOpensASession : Obligations.AttachOpensASession := by
  intro n tag label timeout force s hfree
  refine ⟨fun hbad => ?_, fun hattached hforce => ?_, fun hdetached hforce hqueues => ?_⟩
  · exact hostCommand_refuses hfree portCheck_attach fun _ => attachBlock_badArgument hbad
  · subst hforce
    exact hostCommand_kept hfree portCheck_attach (attachBlock_already (by
      rw [opened_eq, withPort_port, if_pos rfl, openedPort_session]
      exact hattached))
  · have hopened : ((opened n tag (.attach n tag label timeout force) s).port n).session = .detached := by
      rw [opened_eq, withPort_port, if_pos rfl, openedPort_session]
      exact hdetached
    have htaken := hostCommand_taken (tag := tag) (block := attachBlock n label timeout force) hfree
    rw [portCheck_opened, portCheck_attach] at htaken
    dsimp only at htaken
    rw [attachBlock_detached hopened hforce] at htaken
    refine Eq.trans (b := hostCommand n tag (.attach n tag label timeout force)
      (attachBlock n label timeout force) s) rfl (htaken.trans (congrArg Host.Outcome.next ?_))
    rw [openSession_eq, opened_eq, withPort_port, if_pos rfl, withPort_withPort, judgeAttn_sessionOpened hqueues,
      respond_eq, withPort_port, if_pos rfl, withPort_withPort, attachPayload_opened]
    exact congrArg (fun p => withPort n p s) (openSession_answered n tag label timeout force _ (s.port n))

end Sys2Proof.Proofs
end

section
/-! PROOF. READ_STATUS, the parameter set, the conversion code, scaling, and placement in the queues. -/

namespace Sys2Proof.Machine

open Sys2Proof.Safety

/-! ### READ_STATUS (R169) -/

theorem portPayload_row (p : PortCtl) :
    portPayload p = [p.session.value, p.role.value] ++ fourBytes p.label := by
  rw [portPayload, bytesOf_four]

theorem openedPort_label (tag : Byte) (c : Instr) (p : PortCtl) : (openedPort tag c p).label = p.label := by
  unfold openedPort restartedPort
  split
  · rfl
  · split
    · rfl
    · rfl

theorem portPayload_opened (n m : Port) (tag : Byte) (c : Instr) (s : State) :
    portPayload ((opened n tag c s).port m) = portPayload (s.port m) := by
  rw [opened_eq, withPort_port]
  split
  next h =>
    subst h
    rw [portPayload, portPayload, openedPort_session, openedPort_role, openedPort_label]
  · rfl

theorem freeCountOf_eq (s : State) : freeCountOf s = countIds fun i => decide ((s.record i).state = .free) := rfl

/-- The payload of READ_STATUS does not see the frame that has been taken. -/
theorem statusPayload_opened (n : Port) (tag : Byte) (c : Instr) (s : State) :
    statusPayload n (opened n tag c s) = statusPayload n s := by
  unfold statusPayload
  simp only [portPayload_opened]
  rw [opened_eq]
  rfl

theorem statusPayload_row (n : Port) (s : State) :
    statusPayload n s =
      [s.seq.state.value] ++ threeBytes s.seq.fn ++
        [byteOf s.seq.slots, byteOf s.seq.divider.value, s.seq.source.value, s.seq.sync.value,
          byteOf s.seq.spots.length, s.conv.power.value, s.isel.refOk.value,
          byteOf (countIds fun i => decide ((s.record i).state = .free)),
          byteOf (s.queues n).samples.length, byteOf (s.queues n).sampleUnacked,
          byteOf (s.queues n).lost, byteOf (s.queues n).events.length,
          byteOf (s.queues n).eventUnacked] ++
        [(s.port 0).session.value, (s.port 0).role.value] ++ fourBytes (s.port 0).label ++
        [(s.port 1).session.value, (s.port 1).role.value] ++ fourBytes (s.port 1).label ++
        [(s.port 2).session.value, (s.port 2).role.value] ++ fourBytes (s.port 2).label := by
  have hports : ports = [0, 1, 2] := rfl
  unfold statusPayload seqPayload queuePayload
  simp only [hports, portPayload_row, bytesOf_three, freeCountOf_eq, List.flatMap_cons, List.flatMap_nil, List.append_nil,
    List.append_assoc, List.cons_append, List.nil_append]

/-! ### The conversion code (R63) -/

theorem limitCode_toNat (v : Int) : ((limitCode v).toNat : Int) = max 0 (min 4095 v) := by
  unfold limitCode
  split
  · have hzero : (0 : BitVec 12).toNat = 0 := rfl
    rw [hzero]
    omega
  · split
    · have htop : (4095 : BitVec 12).toNat = 4095 := rfl
      rw [htop]
      omega
    · rw [BitVec.toNat_ofNat]
      omega

theorem limitCode_low {v : Int} (h : v ≤ 0) : limitCode v = 0 := if_pos h

theorem limitCode_high {v : Int} (h : 4095 ≤ v) : limitCode v = 4095 :=
  (if_neg (by omega)).trans (if_pos h)

theorem quotient_low {v r : Int} (hr : 0 < r) (h : v ≤ 0) : v * 4096 / r ≤ 0 :=
  Int.ediv_le_of_le_mul hr (by omega)

theorem quotient_high {v r : Int} (hr : 0 < r) (h : r * 4095 ≤ v * 4096) : 4095 ≤ v * 4096 / r :=
  Int.le_ediv_of_mul_le hr (by omega)

/-! ### Scaling (R90) -/

/-- The signed 24-bit range. -/
theorem ofInt_toInt {v : Int} (hlow : -8388608 ≤ v) (hhigh : v ≤ 8388607) : (BitVec.ofInt 24 v).toInt = v := by
  rw [BitVec.toInt_ofInt]
  exact Int.bmod_eq_of_le_mul_two (by omega) (by omega)

theorem clip24_value (v : Int) : (clip24 v).value.toInt = max (-8388608) (min 8388607 v) := by
  unfold clip24
  split
  · rw [ofInt_toInt (by decide) (by decide)]
    omega
  · split
    · rw [ofInt_toInt (by decide) (by decide)]
      omega
    · rw [ofInt_toInt (by omega) (by omega)]
      omega

theorem clip24_clipped (v : Int) : (clip24 v).clipped = true ↔ v < -8388608 ∨ 8388607 < v := by
  unfold clip24
  split
  next h => exact ⟨fun _ => .inl h, fun _ => rfl⟩
  next hlow =>
    split
    next h => exact ⟨fun _ => .inr h, fun _ => rfl⟩
    next hhigh => exact ⟨fun h => (by cases h), fun h => (h.elim (absurd · hlow) (absurd · hhigh))⟩

theorem scaleExact_eq (a : Nat) (p : Profile) :
    scaleExact a p.gain p.offset = Int.fdiv ((a : Int) * p.gain.toInt) 4096 + p.offset.toInt := by
  rw [scaleExact, Int.fdiv_eq_ediv_of_nonneg _ (by decide)]

theorem scaleExact_identity (a : Nat) : scaleExact a 4096 0 = a := by
  have hgain : (4096 : BitVec 16).toInt = 4096 := by decide
  have hoffset : (0 : BitVec 24).toInt = 0 := by decide
  rw [scaleExact, hgain, hoffset]
  omega

/-! ### The parameter set (R3, R101, R175) -/

theorem averageOf_eq_some {b : Byte} {a : Average} : averageOf b = some a ↔ a.count = b.toNat := by
  revert b
  cases a <;> decide

theorem exists_average_iff {v : Nat} : (∃ a : Average, a.count = v) ↔ v ∈ [1, 2, 4, 8, 16] := by
  constructor
  · rintro ⟨a, rfl⟩
    cases a <;> decide
  · simp only [List.mem_cons, List.not_mem_nil, or_false]
    rintro (rfl | rfl | rfl | rfl | rfl)
    exacts [⟨.a1, rfl⟩, ⟨.a2, rfl⟩, ⟨.a4, rfl⟩, ⟨.a8, rfl⟩, ⟨.a16, rfl⟩]

section
variable {b : ParamBytes}

theorem bindingOf_eq_some {trip : Option LineNo} : bindingOf b = some trip ↔
    (b.watchFlags.getLsbD 1 = true → b.line.toNat < 4) ∧
      trip.map Fin.val = if b.watchFlags.getLsbD 1 then some b.line.toNat else none := by
  unfold bindingOf
  cases b.watchFlags.getLsbD 1
  · cases trip <;> simp
  · cases trip with
    | none => simp
    | some l =>
      simp only [if_true, Option.map_eq_some_iff, Option.some.injEq, exists_eq_right, indexOf_eq_some,
        Option.map_some]
      have := l.isLt
      omega

theorem exists_binding (h : b.watchFlags.getLsbD 1 = true → b.line.toNat < 4) : ∃ trip, bindingOf b = some trip := by
  unfold bindingOf
  cases hflag : b.watchFlags.getLsbD 1
  · exact ⟨none, rfl⟩
  · exact ⟨some ⟨b.line.toNat, h hflag⟩, by simp [indexOf, h hflag]⟩

/-- The limits, hysteresis and debounce count of a watch part in range (Table 1-3, R101). -/
theorem watchInRange_iff : watchInRange b = true ↔
    b.low.toInt < b.high.toInt ∧ (b.hysteresis.toNat : Int) ≤ b.high.toInt - b.low.toInt ∧
      1 ≤ b.debounce.toNat ∧ b.debounce.toNat ≤ 8 := by
  simp only [watchInRange, Bool.and_eq_true, decide_eq_true_eq, and_assoc]

/-- The watch part that the bytes give. -/
theorem watchOf_eq_some {w : Option WatchPart} : watchOf b = some w ↔
    (b.watchFlags.getLsbD 0 = false → w = none) ∧
    (b.watchFlags.getLsbD 0 = true → watchInRange b = true ∧ ∃ trip, bindingOf b = some trip ∧
      w = some ⟨b.low, b.high, b.hysteresis, b.debounce.toNat, trip⟩) := by
  unfold watchOf
  cases b.watchFlags.getLsbD 0
  · cases w <;> simp
  · cases watchInRange b
    · simp
    · rw [if_pos rfl, if_pos rfl, Option.map_eq_some_iff]
      exact ⟨fun ⟨trip, hbinding, hw⟩ => ⟨fun h => (by cases h), fun _ => ⟨rfl, trip, hbinding, hw.symm⟩⟩,
        fun ⟨_, hpart⟩ => (hpart rfl).2.imp fun _ ⟨hbinding, hw⟩ => ⟨hbinding, hw.symm⟩⟩

theorem paramsOf_eq_some {p : Params} : paramsOf b = some p ↔
    p.input.val = b.input.toNat ∧ p.period.val = b.period.toNat ∧ p.phase = b.phase.toNat ∧
    p.average.count = b.average.toNat ∧ p.profile.val = b.profile.toNat ∧ watchOf b = some p.watch ∧
    b.phase.toNat < 2 ^ b.period.toNat ∧ b.watchFlags.toNat < 4 := by
  constructor
  · intro h
    unfold paramsOf at h
    split at h
    next input period average profile watch hinput hperiod haverage hprofile hwatch =>
      split at h
      next hchecks =>
        obtain ⟨hphase, hflags⟩ := hchecks
        cases h
        rw [indexOf_eq_some] at hinput hperiod hprofile
        rw [← hperiod] at hphase
        exact ⟨hinput.symm, hperiod.symm, rfl, averageOf_eq_some.mp haverage, hprofile.symm, hwatch, hphase, hflags⟩
      · cases h
    · cases h
  · rintro ⟨hinput, hperiod, hphase, haverage, hprofile, hwatch, hinPeriod, hflags⟩
    unfold paramsOf
    rw [indexOf_eq_some.mpr hinput.symm, indexOf_eq_some.mpr hperiod.symm, averageOf_eq_some.mpr haverage,
      indexOf_eq_some.mpr hprofile.symm, hwatch]
    dsimp only
    rw [if_pos ⟨hperiod ▸ hinPeriod, hflags⟩, ← hphase]

end

end Sys2Proof.Machine

namespace Sys2Proof.Proofs

open Sys2Proof.Machine Sys2Proof.Safety

/-- Settles O15: the block answers what it reads, and the frame taken before shows in nothing of it. -/
theorem readStatusAnswers : Obligations.ReadStatusAnswers := by
  refine ⟨fieldValues, fun n tag s hfree hattached => ?_⟩
  have hcheck := portCheck_attached (c := .readStatus n tag) hattached rfl rfl
  have hkept : execReadStatus n tag s = _ := hostCommand_kept hfree hcheck (r := Reply.ok (statusPayload n s))
    (by rw [readStatusBlock, statusPayload_opened])
  rw [← statusPayload_row]
  exact hkept

/-- Settles O33: the code is the limited quotient, and the two rails are its limits. -/
theorem codeIsTheLimitedQuotient : Obligations.CodeIsTheLimitedQuotient := by
  intro free vin vref hpos
  have hv : (0 : Int) < vref := Int.natCast_pos.mpr hpos
  have hcode : convertCode free vin vref = limitCode (vin * 4096 / vref) := if_neg (Nat.pos_iff_ne_zero.mp hpos)
  rw [hcode, Int.fdiv_eq_ediv_of_nonneg _ hv.le]
  exact ⟨limitCode_toNat _, fun hlow => limitCode_low (quotient_low hv hlow),
    fun hhigh => limitCode_high (quotient_high hv hhigh)⟩

/-- Settles O40: the sum lies in the signed 24-bit range or is clipped to its nearer end. -/
theorem scalingFloorsAndClips : Obligations.ScalingFloorsAndClips := by
  intro a p ha
  have hsum := scaleExact_eq a p
  refine ⟨?_, ?_, fun hgain hoffset => ?_⟩
  · rw [scale, clip24_value, hsum]
  · rw [scale, clip24_clipped, hsum]
  · have hraw : scaleExact a p.gain p.offset = a := by rw [hgain, hoffset, scaleExact_identity]
    have hvalue := clip24_value a
    have hclipped := clip24_clipped a
    refine ⟨?_, ?_⟩
    · rw [scale, hraw, hvalue]
      omega
    · rw [scale, hraw, ← Bool.not_eq_true, hclipped]
      omega

/-- Settles O16: each field by its own range; what is absent is not checked. -/
theorem parameterSetCheck : Obligations.ParameterSetCheck := by
  intro b
  refine ⟨⟨?_, ?_⟩, fun p hp => ?_⟩
  · rintro ⟨p, hp⟩
    obtain ⟨hinput, hperiod, -, haverage, hprofile, hwatch, hinPeriod, hflags⟩ := paramsOf_eq_some.mp hp
    obtain ⟨-, hpart⟩ := watchOf_eq_some.mp hwatch
    refine ⟨hinput ▸ p.input.isLt, hperiod ▸ p.period.isLt, hinPeriod, exists_average_iff.mp ⟨_, haverage⟩,
      hprofile ▸ p.profile.isLt, hflags, fun hflag => ?_⟩
    obtain ⟨hrange, trip, hbinding, -⟩ := hpart hflag
    obtain ⟨hlimits, hhysteresis, hleast, hmost⟩ := watchInRange_iff.mp hrange
    exact ⟨hlimits, hhysteresis, hleast, hmost, (bindingOf_eq_some.mp hbinding).1⟩
  · rintro ⟨hinput, hperiod, hinPeriod, haverage, hprofile, hflags, hpart⟩
    obtain ⟨average, hcount⟩ := exists_average_iff.mpr haverage
    obtain ⟨watch, hwatch⟩ : ∃ w, watchOf b = some w := by
      cases hflag : b.watchFlags.getLsbD 0
      · exact ⟨none, watchOf_eq_some.mpr ⟨fun _ => rfl, fun h => absurd (h.symm.trans hflag) (by decide)⟩⟩
      · obtain ⟨hlimits, hhysteresis, hleast, hmost, hline⟩ := hpart hflag
        obtain ⟨trip, hbinding⟩ := exists_binding hline
        exact ⟨_, watchOf_eq_some.mpr ⟨fun h => absurd (h.symm.trans hflag) (by decide), fun _ =>
          ⟨watchInRange_iff.mpr ⟨hlimits, hhysteresis, hleast, hmost⟩, trip, hbinding, rfl⟩⟩⟩
    exact ⟨⟨⟨_, hinput⟩, ⟨_, hperiod⟩, _, average, ⟨_, hprofile⟩, watch⟩,
      paramsOf_eq_some.mpr ⟨rfl, rfl, rfl, hcount, rfl, hwatch, hinPeriod, hflags⟩⟩
  · obtain ⟨hinput, hperiod, hphase, haverage, hprofile, hwatch, -, -⟩ := paramsOf_eq_some.mp hp
    obtain ⟨habsent, hpart⟩ := watchOf_eq_some.mp hwatch
    refine ⟨hinput, hperiod, hphase, haverage, hprofile, habsent, fun hflag => ?_⟩
    obtain ⟨-, trip, hbinding, hw⟩ := hpart hflag
    exact ⟨_, hw, rfl, rfl, rfl, rfl, (bindingOf_eq_some.mp hbinding).2⟩

/-- Settles O47: by the room in the queue, and for an event by the newest entry. -/
theorem placementInTheQueues : Obligations.PlacementInTheQueues := by
  refine ⟨fun policy r q => ⟨fun hroom => if_pos hroom, fun hfull => ?_, fun hfull => ?_⟩, fun e q =>
    ⟨fun l hl hlost => ?_, fun hnot => ⟨fun hroom => ?_, fun hfull => ?_⟩⟩⟩
  · exact if_neg (Nat.not_lt.mpr hfull)
  · refine (if_neg (Nat.not_lt.mpr hfull)).trans ?_
    rw [← List.drop_one]
    rfl
  · unfold offerEntry
    rw [hl]
    dsimp only
    rw [if_pos hlost, EventCode.value_table]
    rfl
  · unfold offerEntry
    cases hlast : q.getLast? with
    | none => rw [List.getLast?_eq_none_iff.mp hlast]; rfl
    | some l =>
      dsimp only
      rw [if_neg (hnot l hlast)]
      exact if_pos hroom
  · unfold offerEntry
    cases hlast : q.getLast? with
    | none =>
      rw [List.getLast?_eq_none_iff.mp hlast] at hfull
      exact absurd hfull (by decide)
    | some l =>
      dsimp only
      rw [if_neg (hnot l hlast), EventCode.value_table]
      exact if_neg (Nat.not_lt.mpr hfull)

end Sys2Proof.Proofs
end

section
/-! PROOF. The reset, and the slots of a frame. -/

namespace Sys2Proof.Machine

open Sys2Proof.Safety

/-! ### Reset (R170, R171) -/

theorem unlessReset_down {f : State → State} {s : State} (h : s.resetting ≠ none) : unlessReset f s = .next s := by
  obtain ⟨kind, hkind⟩ := Option.ne_none_iff_exists'.mp h
  rw [unlessReset, hkind]
  rfl

theorem Transaction.spoil_eq (t : Transaction) : t.spoil = if t = .idle then .idle else .ignored := by
  cases t <;> rfl

theorem resetKind_eq (kind : ResetKind) (now : Option ResetKind) :
    some (resetKind kind now) = if now = some .powerOn then some .powerOn else some kind := by
  rcases now with _ | _ | _ <;> cases kind <;> rfl

/-- While a reset lasts only another reset, its end and the transactions are taken (R170). -/
theorem exec_in_reset {c : Instr} {s : State} (h : s.resetting ≠ none) (hreset : ∀ kind, c ≠ .reset kind)
    (hend : ∀ s0 s1 s2, c ≠ .resetEnd s0 s1 s2) (hstart : ∀ n, c ≠ .transactionStart n)
    (hframe : ∀ n mosi, c ≠ .commandFrame n mosi) : exec c s = .next s := by
  cases c
  case reset kind => exact absurd rfl (hreset kind)
  case resetEnd s0 s1 s2 => exact absurd rfl (hend s0 s1 s2)
  case transactionStart n => exact absurd rfl (hstart n)
  case commandFrame n mosi => exact absurd rfl (hframe n mosi)
  case fetch | sessionTimerExpiry | frameTimerExpiry | syncEdge | syncTimerExpiry | warmUpExpiry | slotStart |
    conversionComplete => exact unlessReset_down h
  all_goals exact hostCommand_in_reset h

theorem startTransaction_in_reset {n : Port} {s : State} (h : s.resetting ≠ none)
    (hidle : (s.port n).transaction = .idle) :
    startTransaction n s = withPort n { s.port n with transaction := .ignored } s := by
  obtain ⟨kind, hkind⟩ := Option.ne_none_iff_exists'.mp h
  unfold startTransaction
  simp only [hidle, hkind, Option.isSome_some, if_true]
  rfl

theorem endTransaction_in_reset {n : Port} {s : State} (mosi : List Bool) (h : s.resetting ≠ none)
    (hidle : (s.port n).transaction = .idle) :
    endTransaction n mosi s = withPort n (ignoredPort mosi.length (s.port n)) s := by
  obtain ⟨kind, hkind⟩ := Option.ne_none_iff_exists'.mp h
  unfold endTransaction
  simp only [hidle, hkind, Option.isSome_some, if_true]
  rfl

theorem startTransaction_ignored {n : Port} {s : State} (h : (s.port n).transaction = .ignored) :
    startTransaction n s = s := by
  unfold startTransaction
  simp only [h]

theorem endTransaction_ignored {n : Port} {s : State} (mosi : List Bool) (h : (s.port n).transaction = .ignored) :
    endTransaction n mosi s = withPort n (ignoredPort mosi.length (s.port n)) s := by
  unfold endTransaction
  simp only [h]
  rfl

/-- At the end of a reset every block still holds its reset values. -/
theorem finishReset_blocks (s0 s1 s2 : Bool) {kind : ResetKind} {s : State} (hkind : s.resetting = some kind)
    (hlaw : ResetLaw s) :
    finishReset s0 s1 s2 s =
      { hpc := (finishReset s0 s1 s2 s).hpc, isel := { refin := s.isel.refin }, resetting := none,
        freeCount := s.freeCount, pending := s.pending } := by
  obtain ⟨hisel, hconv, hseq, hsubt, hasu, hwtu, htripc, hdlv, -⟩ := hlaw (by rw [hkind]; exact Option.some_ne_none _)
  have hfinish : finishReset s0 s1 s2 s = { s with hpc := (finishReset s0 s1 s2 s).hpc, resetting := none } := by
    unfold finishReset
    simp only [hkind]
  generalize (finishReset s0 s1 s2 s).hpc = ports at hfinish ⊢
  rw [hfinish]
  cases s
  dsimp only at *
  rw [hisel, hconv, hseq, hsubt, hasu, hwtu, htripc, hdlv]

theorem roleOfStrap_eq (s0 s1 s2 : Bool) (n : Port) : roleOfStrap (strapOf s0 s1 s2 n) =
    if (n = 0 ∧ s0) ∨ (n = 1 ∧ s1) ∨ (n = 2 ∧ s2) then .control else .monitor := by
  unfold roleOfStrap strapOf
  revert s0 s1 s2 n
  decide

theorem causeOf_eq (kind : ResetKind) : causeOf kind = if kind = .powerOn then .powerOn else .resetPin := by
  cases kind <;> rfl

/-! ### Slots (R37) -/

theorem inFrame_iff (s : State) : inFrame s = true ↔ s.seq.state = .running ∨ s.seq.state = .halting := by
  unfold inFrame
  cases s.seq.state <;> decide

/-- The state in which a slot finds REFIN at the new level. -/
def refinSet (refin : RefLevel) (s : State) : State := { s with isel := { s.isel with refin := refin } }

theorem slotBegin_outside {refin : RefLevel} {s : State}
    (h : s.seq.state = .stopped ∨ s.seq.state = .starting ∨ s.seq.slots ≤ s.seq.slot) :
    slotBegin refin s = refinSet refin s := by
  refine if_pos ?_
  rcases h with h | h | h
  · exact .inl (by rw [inFrame, h]; rfl)
  · exact .inl (by rw [inFrame, h]; rfl)
  · exact .inr (.inl h)

theorem slotBegin_inside {refin : RefLevel} {s : State} (hframe : s.seq.state = .running ∨ s.seq.state = .halting)
    (hslot : s.seq.slot < s.seq.slots) (hidle : s.conv.conversion = none) :
    slotBegin refin s = match nextEntry s with
      | none => passSlot (refinSet refin s)
      | some x => if s.conv.power = .ready then beginSlot x (refinSet refin s) else refinSet refin s := by
  refine if_neg ?_
  rintro (h | h | h)
  · rw [(inFrame_iff s).mpr hframe] at h
    cases h
  · exact absurd hslot (Nat.not_lt.mpr h)
  · exact h hidle

theorem beginSlot_begun (x : ListEntry) (s : State) :
    beginSlot x s = conversionBegun x.input (some s.seq.fn) x.due
      { s with seq := { s.seq with slot := s.seq.slot + 1, spots := launchSpots x.slot s.seq.spots } } := by
  rw [beginSlot, beginConversion_begun]
  rfl

end Sys2Proof.Machine

namespace Sys2Proof.Proofs

open Sys2Proof.Machine Sys2Proof.Safety

/-- Settles O50: the beginning of a reset, what it ignores while it lasts, and its end. -/
theorem resetBeginsAndEnds : Obligations.ResetBeginsAndEnds := by
  refine ⟨fun kind s => ?_, fun c s => exec_in_reset, fun n mosi s h hidle => ⟨?_, ?_⟩, fun n mosi s h => ⟨?_, ?_⟩,
    fun s0 s1 s2 kind s hkind hlaw => ?_⟩
  · refine ⟨beginReset kind s, rfl, rfl, resetKind_eq kind s.resetting, fun n => ?_⟩
    rw [beginReset_port, resetPort, Transaction.spoil_eq]
  · exact congrArg Host.Outcome.next (startTransaction_in_reset h hidle)
  · exact congrArg Host.Outcome.next (endTransaction_in_reset mosi h hidle)
  · exact congrArg Host.Outcome.next (startTransaction_ignored h)
  · exact congrArg Host.Outcome.next (endTransaction_ignored mosi h)
  · refine ⟨finishReset s0 s1 s2 s, rfl, finishReset_blocks s0 s1 s2 hkind hlaw, fun n => ?_⟩
    obtain ⟨-, -, -, -, -, -, -, -, hports⟩ := hlaw (by rw [hkind]; exact Option.some_ne_none _)
    obtain ⟨hport, -⟩ := hports n
    have hend := finishReset_port s0 s1 s2 n hkind
    rw [endResetPort, roleOfStrap_eq, causeOf_eq, Transaction.spoil_eq, hport] at hend
    refine ⟨congrArg PortCtl.session hend, congrArg PortCtl.holder hend, hend.trans ?_⟩
    rw [hport]

/-- Settles O31: a slot outside a frame, one without a list entry, and one whose conversion begins. -/
theorem slotBeginsItsConversion : Obligations.SlotBeginsItsConversion := by
  intro refin s hup
  have hexec : exec (.slotStart refin) s = .next (slotBegin refin s) := unlessReset_up hup
  rw [hexec]
  refine ⟨fun houtside => congrArg Host.Outcome.next (slotBegin_outside houtside), fun hframe hslot hidle => ?_⟩
  rw [slotBegin_inside hframe hslot hidle]
  unfold nextEntry
  cases s.seq.list.find? (fun x => x.slot == s.seq.slot + 1) with
  | none => rfl
  | some x =>
    intro hready
    dsimp only
    rw [if_pos hready, beginSlot_begun]
    cases hflag : s.isel.refOk <;> cases hgood : decide (2400000 ≤ refin ∧ refin ≤ 2600000) <;>
      simp [conversionBegun, refinSet, referenceEvents, hflag, hgood, launchSpots]

end Sys2Proof.Proofs
end

section
/-! SUPPORT. What operations on records, watches and reports to the trip lines tell the ports, and what they leave
of the rest of the part. -/

namespace Sys2Proof.Machine

open Sys2Proof.Safety

/-! ### What is told (R140 to R144) -/

/-- Between s and t exactly these events have been raised, all with frame number fn. -/
structure Told (fn : FrameNo) (l : List Announced) (s t : State) : Prop where
  hpc : t.hpc = s.hpc
  queues : ∀ m : Port, t.queues m = queuesAfter fn l s m

section
variable {fn : FrameNo} {l k : List Announced} {s t u : State}

theorem Told.of_queues (hhpc : t.hpc = s.hpc) (h : t.dlv.queues = s.dlv.queues) : Told fn [] s t :=
  ⟨hhpc, fun m => congrArg (·[m]) h⟩

theorem Told.refl (s : State) : Told fn [] s s := .of_queues rfl rfl

theorem queuesAfter_twice (m : Port) (ht : Told fn l s t) :
    queuesAfter fn k t m = queuesAfter fn (l ++ k) s m := by
  have hafter := queuesAfter_append (s := { s with seq := { s.seq with fn := fn } }) l k m
  have hqueues : t.queues m = (afterEvents l { s with seq := { s.seq with fn := fn } }).queues m :=
    (ht.queues m).trans (afterEvents_queues l { s with seq := { s.seq with fn := fn } } m).symm
  rw [queuesAfter_congr (t := afterEvents l { s with seq := { s.seq with fn := fn } }) fn k m ht.hpc hqueues]
  exact hafter

theorem Told.trans (h : Told fn l s t) (h' : Told fn k t u) : Told fn (l ++ k) s u :=
  ⟨h'.hpc.trans h.hpc, fun m => (h'.queues m).trans (queuesAfter_twice m h)⟩

theorem told_afterEvents (l : List Announced) (s : State) : Told s.seq.fn l s (afterEvents l s) :=
  ⟨rfl, fun m => afterEvents_queues l s m⟩

/-- Events told after changes that no port sees. -/
theorem Told.after (hhpc : t.hpc = s.hpc) (h : t.dlv.queues = s.dlv.queues) :
    Told t.seq.fn l s (afterEvents l t) :=
  (Told.of_queues hhpc h).trans (told_afterEvents l t)

theorem Told.congr_right (h : Told fn l s t) (hhpc : u.hpc = t.hpc) (hq : u.dlv.queues = t.dlv.queues) :
    Told fn l s u :=
  ⟨hhpc.trans h.hpc, fun m => (congrArg (·[m]) hq : u.queues m = t.queues m).trans (h.queues m)⟩

theorem Told.congr_left (h : Told fn l t u) (hhpc : t.hpc = s.hpc) (hq : t.dlv.queues = s.dlv.queues) :
    Told fn l s u := (Told.of_queues hhpc hq).trans h

theorem Told.samples (h : Told fn l s t) (m : Port) : (t.queues m).samples = (s.queues m).samples ∧
    (t.queues m).sampleUnacked = (s.queues m).sampleUnacked ∧ (t.queues m).lost = (s.queues m).lost := by
  rw [h.queues m]
  exact ⟨queuesAfter_samples .., queuesAfter_sampleUnacked .., queuesAfter_lost ..⟩

theorem Told.events (h : Told fn l s t) (m : Port) : (t.queues m).events = eventsAfter fn l s m := by
  rw [h.queues m, queuesAfter_events]

theorem Told.port (h : Told fn l s t) (m : Port) : t.port m = s.port m := congrArg (·[m]) h.hpc

/-- An event that has been told has been offered (R142). -/
theorem Told.offered {a : Announced} (h : Told fn l s t) (ha : a ∈ l) : Offered fn a s t := by
  intro m hm
  obtain ⟨before, after, rfl⟩ := List.append_of_mem ha
  refine ⟨(before.filter (reaches s m)).map (Announced.entry · fn),
    (after.filter (reaches s m)).map (Announced.entry · fn), ?_⟩
  rw [h.events m, eventsAfter, List.filter_append, List.filter_cons_of_pos hm, List.foldl_append, List.foldl_cons,
    List.foldl_map, List.foldl_map]

/-- The event told last (R142). -/
theorem Told.last {a : Announced} (h : Told fn (l ++ [a]) s t) : LastEvent fn a s t := by
  intro m hm
  refine ⟨eventsAfter fn l s m, ?_⟩
  rw [h.events m, eventsAfter, List.filter_append, List.filter_cons_of_pos hm, List.foldl_append]
  rfl

end

/-! ### What is left -/

/-- Between s and t nothing has changed but records, windows, watches and alarm sets, the latest table, event and
sample queues, use counts, and the state of trip lines with the level of their pins. -/
structure OuterKept (s t : State) : Prop where
  seq : t.seq = s.seq
  conv : t.conv = s.conv
  profiles : t.asu.profiles = s.asu.profiles
  hpc : t.hpc = s.hpc
  refin : t.isel.refin = s.isel.refin
  routed : t.isel.routed = s.isel.routed
  refOk : t.isel.refOk = s.isel.refOk
  modes : ∀ k : InputNo, (t.input k).mode = (s.input k).mode ∧ (t.input k).polarity = (s.input k).polarity
  resetting : t.resetting = s.resetting
  freeCount : t.freeCount = s.freeCount
  pending : t.pending = s.pending

section
variable {s t u : State}

theorem OuterKept.refl (s : State) : OuterKept s s :=
  ⟨rfl, rfl, rfl, rfl, rfl, rfl, rfl, fun _ => ⟨rfl, rfl⟩, rfl, rfl, rfl⟩

theorem OuterKept.trans (h : OuterKept s t) (h' : OuterKept t u) : OuterKept s u where
  seq := h'.seq.trans h.seq
  conv := h'.conv.trans h.conv
  profiles := h'.profiles.trans h.profiles
  hpc := h'.hpc.trans h.hpc
  refin := h'.refin.trans h.refin
  routed := h'.routed.trans h.routed
  refOk := h'.refOk.trans h.refOk
  modes k := ⟨(h'.modes k).1.trans (h.modes k).1, (h'.modes k).2.trans (h.modes k).2⟩
  resetting := h'.resetting.trans h.resetting
  freeCount := h'.freeCount.trans h.freeCount
  pending := h'.pending.trans h.pending

theorem afterEvents_outer (l : List Announced) (s : State) : OuterKept s (afterEvents l s) :=
  ⟨rfl, rfl, rfl, rfl, rfl, rfl, rfl, fun _ => ⟨rfl, rfl⟩, rfl, rfl, rfl⟩

theorem updateLine_outer (l : LineNo) (x : Line) (s : State) : OuterKept s (updateLine l x s) :=
  ⟨rfl, rfl, rfl, rfl, rfl, rfl, rfl, fun k => by rw [updateLine_input]; exact ⟨rfl, rfl⟩, rfl, rfl, rfl⟩

end

/-- Between s and t nothing has changed but event and sample queues, and trip lines with their pins. -/
structure ReportKept (s t : State) : Prop extends OuterKept s t where
  subt : t.subt = s.subt
  asu : t.asu = s.asu
  wtu : t.wtu = s.wtu
  latest : t.dlv.latest = s.dlv.latest

section
variable {s t u : State}

theorem ReportKept.refl (s : State) : ReportKept s s := ⟨.refl s, rfl, rfl, rfl, rfl⟩

theorem ReportKept.trans (h : ReportKept s t) (h' : ReportKept t u) : ReportKept s u where
  toOuterKept := h.toOuterKept.trans h'.toOuterKept
  subt := h'.subt.trans h.subt
  asu := h'.asu.trans h.asu
  wtu := h'.wtu.trans h.wtu
  latest := h'.latest.trans h.latest

theorem afterEvents_kept (l : List Announced) (s : State) : ReportKept s (afterEvents l s) :=
  ⟨afterEvents_outer l s, rfl, rfl, rfl, rfl⟩

theorem updateLine_kept (l : LineNo) (x : Line) (s : State) : ReportKept s (updateLine l x s) :=
  ⟨updateLine_outer l x s, rfl, rfl, rfl, rfl⟩

theorem exitReport_kept (l : LineNo) (i : SubId) (s : State) : ReportKept s (exitReport l i s) := by
  rw [exitReport_eq]
  split
  · exact (updateLine_kept l _ s).trans (afterEvents_kept _ _)
  · exact .refl s

theorem entryReport_kept (l : LineNo) (i : SubId) (s : State) : ReportKept s (entryReport l i s) := by
  unfold entryReport
  dsimp only
  split
  · exact .refl s
  · rw [tripLine_eq]
    exact (updateLine_kept l _ s).trans (afterEvents_kept _ _)
  · rw [raise_eq]
    exact (updateLine_kept l _ s).trans (afterEvents_kept _ _)

theorem watchReport_kept (i : SubId) (trip : Option LineNo) (r : Option Report) (s : State) :
    ReportKept s (watchReport i trip r s) := by
  unfold watchReport
  split
  · exact entryReport_kept _ i s
  · exact exitReport_kept _ i s
  · exact .refl s
  · exact .refl s

theorem watchEvents_kept (i : SubId) (seq : BitVec 16) (l : List EventCode) (s : State) :
    ReportKept s (watchEvents i seq l s) := by
  rw [watchEvents_eq]
  exact afterEvents_kept _ s

end

/-! ### A record handed through WTU to DLV (R102, R109) -/

/-- WTU hands a record on with some watch state, having moved its own watch at most. -/
theorem handleRecord_delivers (i : SubId) {r : SampleRecord} (s : State) (hr : r.watch = none) :
    ∃ (w : Option WatchState) (t : State), handleRecord i r s = delivered i { r with watch := w } t ∧
      OuterKept s t ∧ t.subt = s.subt ∧ t.asu = s.asu ∧ t.dlv.latest = s.dlv.latest ∧
      ∀ j : SubId, j ≠ i → t.watch j = s.watch j := by
  have hself : r = { r with watch := none } := by
    cases r
    cases hr
    rfl
  unfold handleRecord
  simp only [deliverSub_eq]
  split
  · exact ⟨none, s, congrArg (delivered i · s) hself, .refl s, rfl, rfl, rfl, fun _ _ => rfl⟩
  next w hw =>
    split
    · exact ⟨none, s, congrArg (delivered i · s) hself, .refl s, rfl, rfl, rfl, fun _ _ => rfl⟩
    · split
      · exact ⟨some w.state, s, rfl, .refl s, rfl, rfl, rfl, fun _ _ => rfl⟩
      next v _ =>
        refine ⟨_, _, rfl, ?_⟩
        have hkept := (watchEvents_kept i r.sequence (moveWatch w v.toInt).events (updateWatch i (some { w with
          state := (moveWatch w v.toInt).state, count := (moveWatch w v.toInt).count }) s)).trans
            (watchReport_kept i w.part.trip (moveWatch w v.toInt).report _)
        have houter : OuterKept s (updateWatch i (some { w with
            state := (moveWatch w v.toInt).state, count := (moveWatch w v.toInt).count }) s) :=
          ⟨rfl, rfl, rfl, rfl, rfl, rfl, rfl, fun _ => ⟨rfl, rfl⟩, rfl, rfl, rfl⟩
        exact ⟨houter.trans hkept.toOuterKept, hkept.subt, hkept.asu, hkept.latest, fun j hj =>
          (congrArg (fun x : Wtu => x.watches[j]) hkept.wtu).trans ((updateWatch_watch i j _ s).trans (if_neg hj))⟩

/-- What a record handed through WTU to DLV leaves: its own latest table entry, its watch at most, queues and
lines (R109, R138). -/
structure Handed (i : SubId) (r : SampleRecord) (s t : State) : Prop extends OuterKept s t where
  subt : t.subt = s.subt
  asu : t.asu = s.asu
  latest : ∃ w : Option WatchState, t.dlv.latest = put s.dlv.latest i (some { r with watch := w, lost := 0 })
  watch : ∀ j : SubId, j ≠ i → t.watch j = s.watch j

theorem handleRecord_handed (i : SubId) {r : SampleRecord} (s : State) (hr : r.watch = none) :
    Handed i r s (handleRecord i r s) := by
  obtain ⟨w, t, h, houter, hsubt, hasu, hlatest, hwatch⟩ := handleRecord_delivers i s hr
  have hdelivered : OuterKept t (delivered i { r with watch := w } t) :=
    ⟨rfl, rfl, rfl, rfl, rfl, rfl, rfl, fun _ => ⟨rfl, rfl⟩, rfl, rfl, rfl⟩
  rw [h]
  exact ⟨houter.trans hdelivered, hsubt, hasu, ⟨w, congrArg (put · i _) hlatest⟩, hwatch⟩

end Sys2Proof.Machine
end

section
/-! PROOF. Due frames of a window, and how its record is watched and delivered (R83 to R109). -/

namespace Sys2Proof.Machine

open Sys2Proof.Safety

/-! ### A due frame that is not the last, and the last one (R83 to R89) -/

section
variable {e : DueEnd} {frame : FrameNo} {d : Due} {s : State} {w : Window}

theorem reportDue_foreign (h : (s.window d.id).map Window.generation ≠ some d.generation) :
    reportDue e frame d s = s := by
  obtain ⟨-, hs⟩ | ⟨w, hw, hg, -⟩ | ⟨w, hw, hg, -⟩ := reportDue_cases e frame d s
  · exact hs
  · exact absurd (by rw [hw]; exact congrArg some hg) h
  · exact absurd (by rw [hw]; exact congrArg some hg) h

theorem reportDue_moves (hw : s.window d.id = some w) (hg : w.generation = d.generation)
    (hlast : w.position + 1 ≠ w.average.count) :
    reportDue e frame d s = s.setWindow d.id (some { w.take e with position := w.position + 1 }) := by
  unfold reportDue
  rw [hw]
  dsimp only
  rw [if_neg (fun h => h hg), if_neg hlast]

theorem reportDue_closes (hw : s.window d.id = some w) (hg : w.generation = d.generation)
    (hlast : w.position + 1 = w.average.count) :
    reportDue e frame d s = closeWindow d.id frame (w.take e) s := by
  unfold reportDue
  rw [hw]
  dsimp only
  rw [if_neg (fun h => h hg), if_pos hlast]

end

/-- The window of a record that has closed (R88). -/
theorem restart_take (w : Window) (e : DueEnd) : (w.take e).restart = w.restart := by
  obtain ⟨hgen, havg, hprof⟩ := w.take_kept e
  simp only [Window.restart, hgen, havg, hprof]

/-- The record of a window that closes (R88). -/
def closedRecord (i : SubId) (frame : FrameNo) (w : Window) (s : State) : SampleRecord :=
  closeRecord i (s.record i).sequence frame w (s.profile w.profile)

/-- What the closing of a window leaves (R88, R89). -/
structure Closed (i : SubId) (frame : FrameNo) (w : Window) (s t : State) : Prop extends OuterKept s t where
  form : t = withRecord i { s.record i with sequence := (s.record i).sequence + 1 }
    (handleRecord i (closedRecord i frame w s) (s.setWindow i (some w.restart)))
  window : t.window i = some w.restart
  subt : t.subt = (withRecord i { s.record i with sequence := (s.record i).sequence + 1 } s).subt
  latest : ∃ x : Option WatchState, t.dlv.latest[i] = some { closedRecord i frame w s with watch := x, lost := 0 }
  others : ∀ j : SubId, j ≠ i → t.window j = s.window j ∧ t.watch j = s.watch j ∧
    t.dlv.latest[j] = s.dlv.latest[j]

theorem closeWindow_closed (i : SubId) (frame : FrameNo) (w : Window) (s : State) :
    Closed i frame w s (closeWindow i frame w s) := by
  obtain ⟨houter, hsubt, hasu, ⟨x, hlatest⟩, hwatch⟩ :=
    handleRecord_handed i (r := closedRecord i frame w s) (s.setWindow i (some w.restart)) rfl
  generalize hu : handleRecord i (closedRecord i frame w s) (s.setWindow i (some w.restart)) = u at *
  have ht : closeWindow i frame w s = raiseSequence i u := by rw [← hu]; rfl
  rw [ht]
  have hwindow (j : SubId) : u.window j = if j = i then some w.restart else s.window j :=
    (congrArg (fun a : Asu => a.windows[j]) hasu).trans (State.setWindow_window s i j _)
  have hrecord : u.record i = s.record i := congrArg (fun a : Subt => a.records[i]) hsubt
  have hraised : (raiseSequence i u).subt =
      (withRecord i { s.record i with sequence := (s.record i).sequence + 1 } s).subt := by
    unfold raiseSequence
    rw [hrecord, hsubt]
    rfl
  exact {
    toOuterKept := (show OuterKept s (s.setWindow i (some w.restart)) from
      ⟨rfl, rfl, rfl, rfl, rfl, rfl, rfl, fun _ => ⟨rfl, rfl⟩, rfl, rfl, rfl⟩).trans (houter.trans
        ⟨rfl, rfl, rfl, rfl, rfl, rfl, rfl, fun _ => ⟨rfl, rfl⟩, rfl, rfl, rfl⟩)
    form := by
      rw [hu, ← hrecord]
      rfl
    window := (hwindow i).trans (if_pos rfl)
    subt := hraised
    latest := ⟨x, (congrArg (·[i]) hlatest).trans (put_getElem_same _ _ _)⟩
    others := fun j hj => ⟨(hwindow j).trans (if_neg hj), hwatch j hj,
      (congrArg (·[j]) hlatest).trans (put_getElem_other _ _ hj)⟩ }

/-- The sums, counts and marks of a window after a due frame (R84, R85, R86). -/
theorem take_eq (w : Window) (e : DueEnd) : w.take e = match e with
    | .folded code => { w with
        folded := w.folded + 1, sum := w.sum + code.toNat
        railLow := w.railLow || decide (code = 0), railHigh := w.railHigh || decide (code = 4095) }
    | .faulted => { w with misses := w.misses + 1, refFault := true }
    | .missed => { w with misses := w.misses + 1 } := by
  cases e <;> rfl

/-- The fields of the record of a window that closes (R88). -/
theorem closedRecord_fields (i : SubId) (frame : FrameNo) (w : Window) (s : State) :
    (closedRecord i frame w s).raw = (if w.folded = 0 then none else some (BitVec.ofNat 12 (w.sum / w.folded))) ∧
    (closedRecord i frame w s).value = (if w.folded = 0 then none
      else some (scale (w.sum / w.folded) (s.profile w.profile)).value) ∧
    (closedRecord i frame w s).flags.clipped = (decide (w.folded ≠ 0) &&
      (scale (w.sum / w.folded) (s.profile w.profile)).clipped) := by
  unfold closedRecord closeRecord Window.raw
  by_cases h : w.folded = 0
  · simp [h, subFlags]
  · simp [h, subFlags]

/-! ### A watch moved, with the alarm sets at the same moment (R107) -/

/-- The state s with one watch replaced, and the alarm sets as R107 says. -/
def watchMoved (i : SubId) (w : Option Watch) (s : State) : State :=
  { s with wtu := {
      watches := put s.wtu.watches i w
      alarms := tabulate fun l => (List.finRange 32).filter fun j =>
        inAlarmSet (if j = i then w else s.watch j) l } }

theorem updateWatch_moved {s : State} (i : SubId) (w : Option Watch) (h : AlarmLaw s) :
    updateWatch i w s = watchMoved i w s := by
  have halarms : (updateWatch i w s).wtu.alarms = (watchMoved i w s).wtu.alarms :=
    table_ext fun l => by
      have hset := updateWatch_alarmLaw i w h l
      simp only [updateWatch_watch] at hset
      exact hset.trans (tabulate_getElem (fun l => (List.finRange 32).filter fun j =>
        inAlarmSet (if j = i then w else s.watch j) l) l).symm
  rw [updateWatch_eq] at halarms ⊢
  exact congrArg (fun a => { s with wtu := { watches := put s.wtu.watches i w, alarms := a } }) halarms

end Sys2Proof.Machine

namespace Sys2Proof.Proofs

open Sys2Proof.Machine Sys2Proof.Safety

/-- Settles O41: the three ends of a due frame, and a record that passes WTU by the watch it finds. -/
theorem dueFrameEndsOneWay : Obligations.DueFrameEndsOneWay := by
  refine ⟨fun e frame d s => ⟨reportDue_foreign, fun w hw hg => ?_⟩, fun i r s halarm => ?_⟩
  · intro w'
    have hw' : w' = w.take e := (take_eq w e).symm
    clear_value w'
    subst hw'
    refine ⟨reportDue_moves hw hg, fun hlast => ?_⟩
    rw [reportDue_closes hw hg hlast]
    obtain ⟨houter, hform, hwindow, hsubt, ⟨x, hlatest⟩, hothers⟩ := closeWindow_closed d.id frame (w.take e) s
    obtain ⟨hraw, hvalue, hclipped⟩ := closedRecord_fields d.id frame (w.take e) s
    obtain ⟨hgen, -, hprof⟩ := w.take_kept e
    rw [hprof] at hvalue hclipped
    rw [restart_take] at hwindow hform
    refine ⟨hwindow, hothers, hsubt, houter.seq, houter.conv, houter.hpc, houter.profiles, _, hlatest, ?_,
      rfl, rfl, rfl, rfl, rfl, rfl, hgen, hraw, hvalue, rfl, rfl, rfl, rfl, rfl, hclipped⟩
    · rw [hwindow]
      exact hform
  · unfold handleRecord
    simp only [deliverSub_eq, watchEvents_eq, updateWatch_moved _ _ halarm]
    cases s.watch i with
    | none => rfl
    | some w =>
      dsimp only
      split
      · rfl
      · cases r.value with
        | none => rfl
        | some v =>
          dsimp only
          unfold watchReport
          cases w.part.trip with
          | none => rfl
          | some l => rcases (moveWatch w v.toInt).report with _ | _ | _ <;> rfl

end Sys2Proof.Proofs
end

section
/-! SUPPORT. One record operation after another, in ascending id order: what each leaves of the other ids, what is
told, and how the trip lines take the EXIT reports (R20, R112, R120). -/

namespace Sys2Proof.Machine

open Sys2Proof.Safety

/-! ### The slice of an id -/

/-- The record of an id with its window, its watch and its latest table entry. -/
structure Slice where
  record : SubRecord
  window : Option Window
  watch : Option Watch
  latest : Option SampleRecord

/-- The slice of id i in the state s. -/
def sliceOf (s : State) (i : SubId) : Slice := ⟨s.record i, s.window i, s.watch i, s.dlv.latest[i]⟩

/-- The line to which a watch reports EXIT when it leaves its alarm state (R108, R111, R112). -/
def exitLine (w : Option Watch) : Option LineNo :=
  match w with
  | none => none
  | some w => if w.state.alarm then w.part.trip else none

theorem boundInAlarm_iff (w : Option Watch) (m : LineNo) : boundInAlarm w m = true ↔ exitLine w = some m := by
  cases w with
  | none => simp [boundInAlarm, exitLine]
  | some w => cases ha : w.state.alarm <;> simp [boundInAlarm, exitLine, ha]

theorem inAlarmSet_exitLine {w : Option Watch} {m : LineNo} (h : inAlarmSet w m = true) : exitLine w = some m := by
  cases w with
  | none => cases h
  | some w =>
    simp only [inAlarmSet, Bool.and_eq_true, beq_iff_eq] at h
    obtain ⟨⟨-, halarm⟩, htrip⟩ := h
    rw [exitLine, if_pos halarm, htrip]

/-! ### An EXIT report -/

theorem lineAfterExits_then {E : List SubId} {i : SubId} {a a' : List SubId} (x : Line) (h : a = [] → a' = []) :
    lineAfterExits [i] a' (lineAfterExits E a x) = lineAfterExits (E ++ [i]) a' x := by
  by_cases hreleased : E ≠ [] ∧ Releasable a x
  · obtain ⟨hne, hst, harm, hack, ha⟩ := hreleased
    have hfirst : lineAfterExits E a x = { x with state := .armed, ack := ⟨false, false, false⟩ } :=
      if_pos ⟨hne, hst, harm, hack, ha⟩
    have hboth : lineAfterExits (E ++ [i]) a' x = { x with state := .armed, ack := ⟨false, false, false⟩ } :=
      if_pos ⟨by simp, hst, harm, hack, h ha⟩
    rw [hfirst, hboth]
    exact if_neg fun ⟨_, hstate, _⟩ => by cases hstate
  · have hfirst : lineAfterExits E a x = x := if_neg hreleased
    rw [hfirst]
    unfold lineAfterExits
    simp

theorem lineAfterExits_none (a : List SubId) (x : Line) : lineAfterExits [] a x = x := if_neg fun h => h.1 rfl

theorem lineAfterExits_trips (E a : List SubId) (x : Line) :
    (lineAfterExits E a x).arming = x.arming ∧ (lineAfterExits E a x).count = x.count := by
  unfold lineAfterExits
  split
  · exact ⟨rfl, rfl⟩
  · exact ⟨rfl, rfl⟩

/-- What the EXIT report of a watch that has been dropped or restarted does. -/
structure Exits (i : SubId) (report : Option LineNo) (s t : State) : Prop extends ReportKept s t where
  line : ∀ m : LineNo, t.line m =
    if report = some m then lineAfterExits [i] (s.alarms m) (s.line m) else s.line m
  told : ∃ l : List Announced, Told s.seq.fn l s t ∧
    ∀ m : LineNo, report = some m → Releasable (s.alarms m) (s.line m) → releasedByExit m i ∈ l

theorem Exits.none (i : SubId) (s : State) : Exits i none s s :=
  ⟨.refl s, fun _ => rfl, [], .refl s, fun _ h => (by cases h)⟩

theorem exitReport_exits (l : LineNo) (i : SubId) (s : State) : Exits i (some l) s (exitReport l i s) where
  toReportKept := exitReport_kept l i s
  line m := by
    rw [exitReport_line]
    by_cases hm : m = l
    · subst hm
      rw [if_pos rfl, if_pos rfl]
    · rw [if_neg hm, if_neg fun h => hm (Option.some.inj h).symm]
  told := by
    rw [exitReport_eq]
    by_cases hholds : releaseHolds l s = true
    · rw [if_pos hholds]
      refine ⟨[releasedByExit l i], Told.after (s := s) (t := updateLine l _ s) rfl rfl, fun m hm _ => ?_⟩
      obtain rfl := Option.some.inj hm
      exact List.mem_singleton_self _
    · rw [if_neg hholds]
      refine ⟨[], .refl s, fun m hm hrelease => ?_⟩
      obtain rfl := Option.some.inj hm
      exact absurd ((releaseHolds_iff l s).mpr hrelease) hholds

theorem exitIfAlarm_exits (i : SubId) (w : Option Watch) (s : State) : Exits i (exitLine w) s (exitIfAlarm i w s) := by
  unfold exitIfAlarm exitLine
  cases w with
  | none => exact .none i s
  | some w =>
    dsimp only
    split
    · cases htrip : w.part.trip with
      | none => exact .none i s
      | some l => exact exitReport_exits l i s
    · exact .none i s

/-! ### One record operation -/

/-- The record operation of id i: its slice becomes x, the events `need` are told among others, and a report EXIT
goes to the line `report`. -/
structure RecordStep (i : SubId) (x : Slice) (report : Option LineNo) (need : List Announced) (s t : State) : Prop
    extends OuterKept s t where
  slice : ∀ j : SubId, sliceOf t j = if j = i then x else sliceOf s j
  line : ∀ m : LineNo, t.line m =
    if report = some m then lineAfterExits [i] (t.alarms m) (s.line m) else s.line m
  told : ∃ l : List Announced, Told s.seq.fn l s t ∧ need ⊆ l ∧
    ∀ m : LineNo, report = some m → Releasable (t.alarms m) (s.line m) → releasedByExit m i ∈ l

theorem RecordStep.idle (i : SubId) (s : State) : RecordStep i (sliceOf s i) none [] s s where
  toOuterKept := .refl s
  slice j := by
    by_cases hj : j = i
    · rw [if_pos hj, hj]
    · rw [if_neg hj]
  line _ := rfl
  told := ⟨[], .refl s, List.nil_subset _, fun _ h => (by cases h)⟩

/-- Changes that no port sees and that leave the lines, then events, then an EXIT report. -/
theorem RecordStep.of_exits {i : SubId} {x : Slice} {report : Option LineNo} {need : List Announced} {s u t : State}
    (houter : OuterKept s u) (hlines : u.tripc = s.tripc) (hqueues : u.dlv.queues = s.dlv.queues)
    (hslice : ∀ j : SubId, sliceOf u j = if j = i then x else sliceOf s j)
    (hexits : Exits i report (afterEvents need u) t) : RecordStep i x report need s t := by
  obtain ⟨hkept, hline, l, htold, hreleased⟩ := hexits
  have hu : Told s.seq.fn need s (afterEvents need u) := by
    rw [← houter.seq]
    exact Told.after houter.hpc hqueues
  have hfn : (afterEvents need u).seq.fn = s.seq.fn := congrArg Seq.fn houter.seq
  have halarms (m : LineNo) : t.alarms m = (afterEvents need u).alarms m :=
    congrArg (fun w : Wtu => w.alarms[m]) hkept.wtu
  have hbefore (m : LineNo) : (afterEvents need u).line m = s.line m := congrArg (·.lines[m]) hlines
  have hslices (j : SubId) : sliceOf t j = sliceOf u j := by
    have hrecord : t.record j = u.record j := congrArg (fun w : Subt => w.records[j]) hkept.subt
    have hwindow : t.window j = u.window j := congrArg (fun w : Asu => w.windows[j]) hkept.asu
    have hwatch : t.watch j = u.watch j := congrArg (fun w : Wtu => w.watches[j]) hkept.wtu
    have hlatest : t.dlv.latest[j] = u.dlv.latest[j] := congrArg (·[j]) hkept.latest
    rw [sliceOf, sliceOf, hrecord, hwindow, hwatch, hlatest]
  exact {
    toOuterKept := houter.trans ((afterEvents_outer need u).trans hkept.toOuterKept)
    slice := fun j => (hslices j).trans (hslice j)
    line := fun m => by rw [hline m, halarms m, hbefore m]
    told := ⟨need ++ l, hu.trans (hfn ▸ htold), List.subset_append_left _ _, fun m hm hrelease =>
      List.mem_append_right _ (hreleased m hm (by rw [hbefore m, ← halarms m]; exact hrelease))⟩ }

/-! ### Record operations in ascending id order -/

section
variable (new : SubId → Slice → Slice) (report : Slice → Option LineNo) (need : SubId → Slice → List Announced)
  (s : State)

/-- The ids of a list that report EXIT to line m. -/
def reporters (m : LineNo) (p : List SubId) : List SubId := p.filter fun i => report (sliceOf s i) = some m

/-- The alarm set of line m once the ids up to i have had their operation. -/
def alarmsUpTo (m : LineNo) (i : SubId) : List SubId :=
  (List.finRange 32).filter fun j =>
    inAlarmSet (if j ≤ i then (new j (sliceOf s j)).watch else s.watch j) m

/-- No id joins the alarm set of line m, and one that makes no report to it stays in it or out of it. -/
def AlarmsShrink (m : LineNo) : Prop :=
  ∀ j : SubId, (inAlarmSet (new j (sliceOf s j)).watch m = true → inAlarmSet (s.watch j) m = true) ∧
    (report (sliceOf s j) ≠ some m → inAlarmSet (new j (sliceOf s j)).watch m = inAlarmSet (s.watch j) m)

/-- The operations of the ids of p, one after the other. -/
structure RecordSteps (p : List SubId) (t : State) : Prop extends OuterKept s t where
  slice : ∀ j : SubId, sliceOf t j = if j ∈ p then new j (sliceOf s j) else sliceOf s j
  told : ∃ l : List Announced, Told s.seq.fn l s t ∧ (∀ i ∈ p, need i (sliceOf s i) ⊆ l) ∧
    (AlarmLaw s → ∀ m : LineNo, AlarmsShrink new report s m →
      t.line m = lineAfterExits (reporters report s m p) (t.alarms m) (s.line m) ∧
      (reporters report s m p ≠ [] → Releasable (t.alarms m) (s.line m) →
        ∃ i : SubId, (reporters report s m p).find? (fun i => decide (alarmsUpTo new s m i = [])) = some i ∧
          releasedByExit m i ∈ l))
  trips : ∀ m : LineNo, (t.line m).arming = (s.line m).arming ∧ (t.line m).count = (s.line m).count
  quiet : ∀ m : LineNo, (∀ j ∈ p, report (sliceOf s j) ≠ some m) → t.line m = s.line m

theorem RecordSteps.nil : RecordSteps new report need s [] s where
  toOuterKept := .refl s
  slice _ := rfl
  told := ⟨[], .refl s, fun _ h => (by cases h), fun _ m _ =>
    ⟨(lineAfterExits_none _ _).symm, fun h => absurd rfl h⟩⟩
  trips _ := ⟨rfl, rfl⟩
  quiet _ _ := rfl

end

section
variable {new : SubId → Slice → Slice} {report : Slice → Option LineNo} {need : SubId → Slice → List Announced}
  {s t u : State} {p : List SubId} {i : SubId}

/-- The alarm set of a line by the slices (R107). -/
theorem alarms_of_slices {t : State} (h : AlarmLaw t) (m : LineNo) {f : SubId → Slice} (hf : ∀ j, sliceOf t j = f j) :
    t.alarms m = (List.finRange 32).filter fun j => inAlarmSet (f j).watch m := by
  rw [h m]
  refine List.filter_congr fun j _ => ?_
  rw [← hf j]
  rfl

theorem reporters_append (m : LineNo) :
    reporters report s m (p ++ [i]) = reporters report s m p ++ if report (sliceOf s i) = some m then [i] else [] := by
  unfold reporters
  rw [List.filter_append]
  by_cases h : report (sliceOf s i) = some m
  · rw [if_pos h, List.filter_cons_of_pos (by simpa using h), List.filter_nil]
  · rw [if_neg h, List.filter_cons_of_neg (by simpa using h), List.filter_nil]

theorem filter_nil_of_imp {f g : SubId → Bool} (h : ∀ j, g j = true → f j = true)
    (hf : (List.finRange 32).filter f = []) : (List.finRange 32).filter g = [] := by
  rw [List.filter_eq_nil_iff] at hf ⊢
  exact fun j hj hg => hf j hj (h j hg)

/-- The slices once the operations of the ids of p have been done. -/
def slicesAfter (new : SubId → Slice → Slice) (s : State) (p : List SubId) (j : SubId) : Slice :=
  if j ∈ p then new j (sliceOf s j) else sliceOf s j

section
variable {m : LineNo} (hi : i ∉ p) (hshrink : AlarmsShrink new report s m)
include hi hshrink

theorem slicesAfter_shrink (j : SubId) (h : inAlarmSet (slicesAfter new s (p ++ [i]) j).watch m = true) :
    inAlarmSet (slicesAfter new s p j).watch m = true := by
  unfold slicesAfter at h ⊢
  by_cases hj : j = i
  · subst hj
    rw [if_pos (by simp)] at h
    rw [if_neg hi]
    exact (hshrink j).1 h
  · simpa only [List.mem_append, List.mem_singleton, hj, or_false] using h

theorem slicesAfter_unreported (hrep : report (sliceOf s i) ≠ some m) (j : SubId) :
    inAlarmSet (slicesAfter new s (p ++ [i]) j).watch m = inAlarmSet (slicesAfter new s p j).watch m := by
  unfold slicesAfter
  by_cases hj : j = i
  · subst hj
    rw [if_pos (by simp), if_neg hi]
    exact (hshrink j).2 hrep
  · simp only [List.mem_append, List.mem_singleton, hj, or_false]

end

/-- An alarm set that is empty after all ids of p was the smallest of those that the ids of p have left. -/
theorem alarmsUpTo_nil {m : LineNo} {i0 : SubId} (hshrink : AlarmsShrink new report s m)
    (h0 : ∀ j, j ≤ i0 → j ∈ p) (h : alarmsUpTo new s m i0 = []) :
    (List.finRange 32).filter (fun j => inAlarmSet (slicesAfter new s p j).watch m) = [] := by
  refine filter_nil_of_imp (fun j hj => ?_) h
  unfold slicesAfter at hj
  by_cases hle : j ≤ i0
  · rw [if_pos (h0 j hle)] at hj
    rw [if_pos hle]
    exact hj
  · rw [if_neg hle]
    split at hj
    · exact (hshrink j).1 hj
    · exact hj

/-- The line of an id that reports, after those before it. -/
theorem lines_snoc_report {m : LineNo} {E : List SubId} {a a' : List SubId} {x y z : Line} {l k : List Announced}
    (hy : y = lineAfterExits E a x) (hz : z = lineAfterExits [i] a' y) (ha : a = [] → a' = [])
    (hrel : E ≠ [] → Releasable a x →
      ∃ j : SubId, E.find? (fun i => decide (alarmsUpTo new s m i = [])) = some j ∧ releasedByExit m j ∈ l)
    (hnow : Releasable a' y → releasedByExit m i ∈ k) (hupTo : alarmsUpTo new s m i = a')
    (hbefore : ∀ j ∈ E, alarmsUpTo new s m j = [] → a = []) :
    z = lineAfterExits (E ++ [i]) a' x ∧ (E ++ [i] ≠ [] → Releasable a' x →
      ∃ j : SubId, (E ++ [i]).find? (fun i => decide (alarmsUpTo new s m i = [])) = some j ∧
        releasedByExit m j ∈ l ++ k) := by
  refine ⟨by rw [hz, hy, lineAfterExits_then x ha], fun _ hx => ?_⟩
  obtain ⟨hst, harm, hack, ha'⟩ := hx
  by_cases hfirst : E ≠ [] ∧ a = []
  · obtain ⟨hne, hnil⟩ := hfirst
    obtain ⟨j, hfind, hj⟩ := hrel hne ⟨hst, harm, hack, hnil⟩
    exact ⟨j, by rw [List.find?_append, hfind]; rfl, List.mem_append_left _ hj⟩
  · have hsame : y = x := by
      rw [hy]
      exact if_neg fun ⟨hne, _, _, _, hnil⟩ => hfirst ⟨hne, hnil⟩
    have hnone : E.find? (fun i => decide (alarmsUpTo new s m i = [])) = none := by
      rw [List.find?_eq_none]
      intro j hj hnil
      exact hfirst ⟨List.ne_nil_of_mem hj, hbefore j hj (of_decide_eq_true hnil)⟩
    refine ⟨i, ?_, List.mem_append_right _ (hnow ⟨hsame ▸ hst, hsame ▸ harm, hsame ▸ hack, ha'⟩)⟩
    rw [List.find?_append, hnone, Option.none_or, List.find?_cons_of_pos]
    rw [hupTo, ha']
    rfl

/-- One more operation. -/
theorem RecordSteps.snoc (h : RecordSteps new report need s p t)
    (hstep : RecordStep i (new i (sliceOf t i)) (report (sliceOf t i)) (need i (sliceOf t i)) t u)
    (hp : ∀ j, j ∈ p ↔ j < i) (ht : AlarmLaw s → AlarmLaw t) (hu : AlarmLaw s → AlarmLaw u) :
    RecordSteps new report need s (p ++ [i]) u := by
  have hi : i ∉ p := fun hmem => lt_irrefl i ((hp i).mp hmem)
  have hslice : sliceOf t i = sliceOf s i := (h.slice i).trans (if_neg hi)
  rw [hslice] at hstep
  obtain ⟨l, htold, hneed, hlines⟩ := h.told
  obtain ⟨k, htold', hneed', hreleased⟩ := hstep.told
  have hslices (j : SubId) : sliceOf u j = if j ∈ p ++ [i] then new j (sliceOf s j) else sliceOf s j := by
    rw [hstep.slice j, h.slice j]
    by_cases hj : j = i
    · subst hj
      rw [if_pos rfl, if_pos (by simp)]
    · rw [if_neg hj]
      simp only [List.mem_append, List.mem_singleton, hj, or_false]
  exact {
    toOuterKept := h.toOuterKept.trans hstep.toOuterKept
    slice := hslices
    told := by
      refine ⟨l ++ k, htold.trans (h.seq ▸ htold'), fun j hj => ?_, fun halarm m hshrink => ?_⟩
      · rcases List.mem_append.mp hj with hj | hj
        · exact fun a ha => List.mem_append_left _ (hneed j hj ha)
        · obtain rfl := List.mem_singleton.mp hj
          exact fun a ha => List.mem_append_right _ (hneed' ha)
      · obtain ⟨hline, hrel⟩ := hlines halarm m hshrink
        have hta : t.alarms m = _ := alarms_of_slices (ht halarm) m (f := slicesAfter new s p) h.slice
        have hua : u.alarms m = _ := alarms_of_slices (hu halarm) m (f := slicesAfter new s (p ++ [i])) hslices
        rw [reporters_append]
        by_cases hrep : report (sliceOf s i) = some m
        · rw [if_pos hrep]
          refine lines_snoc_report hline ((hstep.line m).trans (if_pos hrep)) (fun hnil => ?_) hrel (hreleased m hrep)
            ?_ fun j hj hnil => ?_
          · rw [hua]
            exact filter_nil_of_imp (slicesAfter_shrink hi hshrink) (hta ▸ hnil)
          · rw [hua]
            refine List.filter_congr fun j _ => ?_
            unfold slicesAfter
            have hmem : j ∈ p ++ [i] ↔ j ≤ i := by
              rw [List.mem_append, List.mem_singleton, hp]
              exact le_iff_lt_or_eq.symm
            by_cases hle : j ≤ i
            · rw [if_pos hle, if_pos (hmem.mpr hle)]
            · rw [if_neg hle, if_neg fun hj => hle (hmem.mp hj)]
              rfl
          · rw [hta]
            have hj : j ∈ p := List.mem_of_mem_filter hj
            exact alarmsUpTo_nil hshrink (fun j' hle => (hp j').mpr (lt_of_le_of_lt hle ((hp j).mp hj))) hnil
        · have hsame : u.alarms m = t.alarms m := by
            rw [hua, hta]
            exact List.filter_congr fun j _ => slicesAfter_unreported hi hshrink hrep j
          rw [if_neg hrep, List.append_nil, hstep.line m, if_neg hrep, hsame]
          exact ⟨hline, fun hne hx => (hrel hne hx).imp fun j ⟨hfind, hj⟩ => ⟨hfind, List.mem_append_left _ hj⟩⟩
    trips := fun m => by
      have hline : (u.line m).arming = (t.line m).arming ∧ (u.line m).count = (t.line m).count := by
        rw [hstep.line m]
        split
        · exact lineAfterExits_trips _ _ _
        · exact ⟨rfl, rfl⟩
      exact ⟨hline.1.trans (h.trips m).1, hline.2.trans (h.trips m).2⟩
    quiet := fun m hm => by
      rw [hstep.line m, if_neg (hm i (by simp))]
      exact h.quiet m fun j hj => hm j (List.mem_append_left _ hj) }

theorem mem_before {p q : List SubId} (h : p ++ i :: q = List.finRange 32) (j : SubId) : j ∈ p ↔ j < i := by
  have hsorted : (p ++ i :: q).Pairwise (· < ·) := h ▸ (List.sortedLT_finRange 32).pairwise
  obtain ⟨-, hafter, hbefore⟩ := List.pairwise_append.mp hsorted
  refine ⟨fun hj => hbefore j hj i (List.mem_cons_self), fun hlt => ?_⟩
  have hmem : j ∈ p ++ i :: q := h ▸ List.mem_finRange j
  rcases List.mem_append.mp hmem with hj | hj
  · exact hj
  · rcases List.mem_cons.mp hj with rfl | hj
    · exact absurd hlt (lt_irrefl j)
    · exact absurd ((List.pairwise_cons.mp hafter).1 j hj) (not_lt.mpr hlt.le)

/-- One operation for each id, in ascending order. -/
theorem recordSteps_foldl {f : State → SubId → State}
    (hf : ∀ (t : State) (i : SubId), OuterKept s t →
      RecordStep i (new i (sliceOf t i)) (report (sliceOf t i)) (need i (sliceOf t i)) t (f t i))
    (hc : ∀ (t : State) (i : SubId), Changes t (f t i)) :
    RecordSteps new report need s subIds (subIds.foldl f s) := by
  have hrest : ∀ (q p : List SubId) (t : State), p ++ q = List.finRange 32 → Changes s t →
      RecordSteps new report need s p t → RecordSteps new report need s subIds (q.foldl f t) := by
    intro q
    induction q with
    | nil =>
      intro p t hp _ h
      rw [List.append_nil] at hp
      rw [subIds, ← hp]
      exact h
    | cons i q ih =>
      intro p t hp hst h
      have hnext := hst.trans (hc t i)
      exact ih (p ++ [i]) (f t i) (by rw [List.append_assoc]; exact hp) hnext
        (h.snoc (hf t i h.toOuterKept) (mem_before hp)
          (fun ha => Changes.keep alarmLaw_kept hst ha) fun ha => Changes.keep alarmLaw_kept hnext ha)
  exact hrest subIds [] s rfl .refl (.nil new report need s)

end

/-! ### The return to FREE (R14, R112) -/

/-- The slice of a FREE record. -/
def freedSlice : Slice := ⟨{}, none, none, none⟩

theorem recordDropped_outer (i : SubId) (s : State) : OuterKept s (recordDropped i s) :=
  ⟨rfl, rfl, rfl, rfl, rfl, rfl, rfl, fun k => by
    have hinput : (recordDropped i s).input k = _ := tabulate_getElem _ k
    rw [hinput]
    exact ⟨rfl, rfl⟩, rfl, rfl, rfl⟩

theorem recordDropped_slice (i j : SubId) (s : State) :
    sliceOf (recordDropped i s) j = if j = i then freedSlice else sliceOf s j := by
  have hlatest : (recordDropped i s).dlv.latest[j] = if j = i then none else s.dlv.latest[j] := put_getElem _ _ _ _
  rw [sliceOf, recordDropped_record, recordDropped_window, recordDropped_watch, hlatest]
  by_cases hj : j = i
  · simp only [if_pos hj]
    rfl
  · simp only [if_neg hj]
    rfl

theorem freeRecord_step (i : SubId) (s : State) :
    RecordStep i freedSlice (exitLine (s.watch i)) [subEndedOf i (s.record i)] s (freeRecord i s) :=
  .of_exits (recordDropped_outer i s) rfl rfl (recordDropped_slice i · s)
    (by rw [freeRecord_eq]; exact exitIfAlarm_exits i (s.watch i) (recordFreed i s))

end Sys2Proof.Machine
end

section
/-! SUPPORT. Promotion of all records (R20), and the freeing of all CLOSING records (R14, R23). -/

namespace Sys2Proof.Machine

open Sys2Proof.Safety

/-! ### Promotion of one record (R20, R21, R82, R111, R112) -/

/-- The slice of a record after promotion. -/
def promotedSlice (_ : SubId) (x : Slice) : Slice :=
  ⟨promoted x.record, promotedWindow x.record x.window, promotedWatch x.record x.watch,
    if x.record.state = .closing then none else x.latest⟩

/-- The line to which promotion makes an EXIT report. -/
def promotionExit (x : Slice) : Option LineNo := if leavesAtPromotion x.record then exitLine x.watch else none

/-- Is there a watch in an alarm state? -/
def inAlarm (w : Option Watch) : Bool := w.any fun w => w.state.alarm

/-- The events of the promotion of one record, but for a release. -/
def promotionEvents (i : SubId) (x : Slice) : List Announced :=
  if x.record.state = .closing then [subEndedOf i x.record]
  else if watchPartChanges x.record && inAlarm x.watch then
    [⟨audienceOf x.record, .watchClear, BitVec.ofNat 8 i.val, 1⟩]
  else []

theorem exitLine_none {w : Option Watch} (h : inAlarm w = false) : exitLine w = none := by
  cases w with
  | none => rfl
  | some w => exact if_neg (Bool.not_eq_true _ ▸ h)

theorem watchPartOf_eq (p : Option Params) : watchPartOf p = p.bind Params.watch := by
  cases p <;> rfl

theorem updateRecord_outer (i : SubId) (new : SubRecord) (s : State) : OuterKept s (updateRecord i new s) :=
  ⟨rfl, rfl, rfl, rfl, rfl, rfl, rfl, fun k => by rw [updateRecord_input]; exact ⟨rfl, rfl⟩, rfl, rfl, rfl⟩

section
variable {i : SubId} {p : Params} {s : State}

theorem recordActivated_outer : OuterKept s (recordActivated i p s) :=
  (updateRecord_outer i _ s).trans
    ⟨rfl, rfl, rfl, rfl, rfl, rfl, rfl, fun _ => ⟨rfl, rfl⟩, rfl, rfl, rfl⟩

theorem recordRetaken_outer : OuterKept s (recordRetaken i p s) :=
  (updateRecord_outer i _ s).trans
    ⟨rfl, rfl, rfl, rfl, rfl, rfl, rfl, fun _ => ⟨rfl, rfl⟩, rfl, rfl, rfl⟩

theorem recordActivated_slice (hst : (s.record i).state = .staged) (hp : (s.record i).staged = some p) (j : SubId) :
    sliceOf (recordActivated i p s) j = if j = i then promotedSlice i (sliceOf s i) else sliceOf s j := by
  rw [sliceOf, recordActivated_record, recordActivated_window, recordActivated_watch]
  by_cases hj : j = i
  · subst hj
    simp only [if_true]
    unfold promotedSlice promoted promotedWindow promotedWatch sliceOf
    simp only [hst, hp, reduceCtorEq, if_false]
    rfl
  · simp only [if_neg hj]
    rfl

theorem recordRetaken_slice (hst : (s.record i).state = .active) (hp : (s.record i).staged = some p) (j : SubId) :
    sliceOf (recordRetaken i p s) j = if j = i then promotedSlice i (sliceOf s i) else sliceOf s j := by
  rw [sliceOf, recordRetaken_record, recordRetaken_window, recordRetaken_watch]
  by_cases hj : j = i
  · subst hj
    simp only [if_true]
    unfold promotedSlice promoted promotedWindow promotedWatch sliceOf retakenWatch
    simp only [hst, hp, reduceCtorEq, if_false, watchPartOf_eq]
    rfl
  · simp only [if_neg hj]
    rfl

theorem watchPartChanges_iff (hst : (s.record i).state = .active) (hp : (s.record i).staged = some p) :
    watchPartChanges (s.record i) = true ↔ watchPartOf (s.record i).current ≠ p.watch := by
  simp [watchPartChanges, hst, hp, watchPartOf_eq]

theorem leavesAtPromotion_active (hst : (s.record i).state = .active) :
    leavesAtPromotion (s.record i) = watchPartChanges (s.record i) := by
  simp [leavesAtPromotion, hst]

/-- A record that takes its staged change without leaving an alarm state. -/
theorem retaken_step {report : Option LineNo} {need : List Announced} (hst : (s.record i).state = .active)
    (hp : (s.record i).staged = some p) (hrep : report = none) (hneed : need = []) :
    RecordStep i (promotedSlice i (sliceOf s i)) report need s (recordRetaken i p s) := by
  subst hrep hneed
  exact .of_exits recordRetaken_outer rfl rfl (recordRetaken_slice hst hp)
    (by rw [afterEvents_nil]; exact .none i _)

theorem takeStaged_step (hst : (s.record i).state = .active) (hp : (s.record i).staged = some p) :
    RecordStep i (promotedSlice i (sliceOf s i)) (promotionExit (sliceOf s i)) (promotionEvents i (sliceOf s i)) s
      (takeStaged i p s) := by
  have hnot : (sliceOf s i).record.state ≠ .closing := fun h => by cases hst.symm.trans h
  rw [takeStaged_eq, promotionEvents, if_neg hnot, promotionExit,
    show (sliceOf s i).record = s.record i from rfl, leavesAtPromotion_active hst]
  by_cases hpart : watchPartOf (s.record i).current = p.watch
  · have hkept : watchPartChanges (s.record i) = false :=
      Bool.eq_false_iff.mpr fun h => (watchPartChanges_iff hst hp).mp h hpart
    rw [if_pos hpart, hkept]
    exact retaken_step hst hp rfl rfl
  · have hchanges : watchPartChanges (s.record i) = true := (watchPartChanges_iff hst hp).mpr hpart
    rw [if_neg hpart, hchanges]
    simp only [if_true, Bool.true_and]
    cases hw : s.watch i with
    | none =>
      have hnone : (sliceOf s i).watch = none := hw
      rw [hnone]
      exact retaken_step hst hp rfl rfl
    | some v =>
      have hsome : (sliceOf s i).watch = some v := hw
      rw [hsome]
      dsimp only
      by_cases halarm : v.state.alarm = true
      · rw [if_pos halarm, if_pos (show inAlarm (some v) = true from halarm), watchEvent_eq]
        have haudience : audienceOf ((recordRetaken i p s).record i) = audienceOf (s.record i) := by
          rw [recordRetaken_record, if_pos rfl]
          rfl
        rw [haudience]
        exact .of_exits recordRetaken_outer rfl rfl (recordRetaken_slice hst hp) (exitIfAlarm_exits i (some v) _)
      · rw [if_neg halarm]
        exact retaken_step hst hp (exitLine_none (by simpa [inAlarm] using halarm)) (if_neg halarm)

end

/-- A record that promotion leaves as it is. -/
theorem idle_step {i : SubId} {s : State} (hslice : promotedSlice i (sliceOf s i) = sliceOf s i)
    (hst : (s.record i).state ≠ .closing) (hstays : watchPartChanges (s.record i) = false) :
    RecordStep i (promotedSlice i (sliceOf s i)) (promotionExit (sliceOf s i)) (promotionEvents i (sliceOf s i)) s s := by
  have hevents : promotionEvents i (sliceOf s i) = [] := by
    rw [promotionEvents, show (sliceOf s i).record = s.record i from rfl, if_neg hst, hstays]
    rfl
  have hexit : promotionExit (sliceOf s i) = none := by
    rw [promotionExit, leavesAtPromotion, show (sliceOf s i).record = s.record i from rfl, hstays]
    exact if_neg (by simpa using hst)
  rw [hslice, hevents, hexit]
  exact .idle i s

theorem promoteRecord_step (i : SubId) (s : State) :
    RecordStep i (promotedSlice i (sliceOf s i)) (promotionExit (sliceOf s i)) (promotionEvents i (sliceOf s i)) s
      (promoteRecord i s) := by
  have hrecord : (sliceOf s i).record = s.record i := rfl
  unfold promoteRecord
  dsimp only
  split
  next p hst hp =>
    have hnot : (s.record i).state ≠ .closing := fun h => by cases hst.symm.trans h
    have hstays : watchPartChanges (s.record i) = false := by simp [watchPartChanges, hst]
    have hexit : promotionExit (sliceOf s i) = none := by simp [promotionExit, leavesAtPromotion, hrecord, hstays, hst]
    have hevents : promotionEvents i (sliceOf s i) = [] := by simp [promotionEvents, hrecord, hstays, hst]
    rw [hexit, hevents]
    exact .of_exits (u := recordActivated i p s) recordActivated_outer rfl rfl (recordActivated_slice hst hp)
      (by rw [afterEvents_nil]; exact .none i _)
  next p hst hp => exact takeStaged_step hst hp
  next hst =>
    have hslice : promotedSlice i (sliceOf s i) = freedSlice := by
      simp [promotedSlice, promoted, promotedWindow, promotedWatch, hrecord, hst, freedSlice]
    have hexit : promotionExit (sliceOf s i) = exitLine (s.watch i) := by
      simp [promotionExit, leavesAtPromotion, hst, sliceOf]
    have hevents : promotionEvents i (sliceOf s i) = [subEndedOf i (s.record i)] := if_pos hst
    rw [hslice, hexit, hevents]
    exact freeRecord_step i s
  next hst hnone =>
    refine idle_step ?_ (fun h => by cases hst.symm.trans h) (by simp [watchPartChanges, hst])
    simp [promotedSlice, promoted, promotedWindow, promotedWatch, sliceOf, hst, hnone]
  next hst hnone =>
    refine idle_step ?_ (fun h => by cases hst.symm.trans h) (by simp [watchPartChanges, hnone])
    simp [promotedSlice, promoted, promotedWindow, promotedWatch, sliceOf, hst, hnone]
  next hst =>
    refine idle_step ?_ (fun h => by cases hst.symm.trans h) (by simp [watchPartChanges, hst])
    simp [promotedSlice, promoted, promotedWindow, promotedWatch, sliceOf, hst]

theorem promoteAll_steps (s : State) :
    RecordSteps promotedSlice promotionExit promotionEvents s subIds (promoteAll s) :=
  recordSteps_foldl (f := fun s i => promoteRecord i s) (fun t i _ => promoteRecord_step i t)
    fun t i => promoteRecord_changes i t

/-! ### All CLOSING records become FREE (R14, R23) -/

/-- The slice of a record after every CLOSING record has become FREE. -/
def closedSlice (_ : SubId) (x : Slice) : Slice := if x.record.state = .closing then freedSlice else x

def closingExit (x : Slice) : Option LineNo := if x.record.state = .closing then exitLine x.watch else none

def closingEvents (i : SubId) (x : Slice) : List Announced :=
  if x.record.state = .closing then [subEndedOf i x.record] else []

theorem freeClosing_steps (s : State) :
    RecordSteps closedSlice closingExit closingEvents s subIds (freeClosing s) := by
  refine recordSteps_foldl (fun t i _ => ?_) fun t i => ?_
  · by_cases hst : (t.record i).state = .closing
    · have hslice : closedSlice i (sliceOf t i) = freedSlice := if_pos hst
      have hexit : closingExit (sliceOf t i) = exitLine (t.watch i) := if_pos hst
      have hevents : closingEvents i (sliceOf t i) = [subEndedOf i (t.record i)] := if_pos hst
      rw [if_pos hst, hslice, hexit, hevents]
      exact freeRecord_step i t
    · have hslice : closedSlice i (sliceOf t i) = sliceOf t i := if_neg hst
      have hexit : closingExit (sliceOf t i) = none := if_neg hst
      have hevents : closingEvents i (sliceOf t i) = [] := if_neg hst
      rw [if_neg hst, hslice, hexit, hevents]
      exact .idle i t
  · split
    · exact freeRecord_changes i t
    · exact .refl

end Sys2Proof.Machine
end

section
/-! SUPPORT. The trip lines and their pins after the EXIT reports of records (R112, R115, R120, R129). -/

namespace Sys2Proof.Machine

open Sys2Proof.Safety

/-! ### Pins (R115) -/

theorem lineInput_of_inputLine {k : InputNo} {l : LineNo} (h : inputLine k = some l) : lineInput l = k :=
  inputLine_eq_some.mp h

/-- With the laws of the lines before and after, and modes and polarities kept, a pin changes only with the state
of its line (R115). -/
theorem pinsFollow_of_laws {s t : State} (hs : TripLaw s) (ht : TripLaw t)
    (hmodes : ∀ k : InputNo, (t.input k).mode = (s.input k).mode ∧ (t.input k).polarity = (s.input k).polarity) :
    PinsFollow s t := by
  intro k
  obtain ⟨hslines, hspins⟩ := hs
  obtain ⟨htlines, htpins⟩ := ht
  obtain ⟨-, hsdrive⟩ := hspins k
  obtain ⟨-, htdrive⟩ := htpins k
  obtain ⟨hmode, hpolarity⟩ := hmodes k
  rw [hmode, hpolarity] at htdrive
  cases hline : inputLine k with
  | none =>
    have hst : lineTripped t k = lineTripped s k := by simp only [lineTripped, hline]
    rw [hst] at htdrive
    exact htdrive.trans hsdrive.symm
  | some l =>
    have hk : lineInput l = k := lineInput_of_inputLine hline
    by_cases hsame : (t.line l).state = (s.line l).state
    · have hst : lineTripped t k = lineTripped s k := by simp only [lineTripped, hline, hsame]
      rw [hst] at htdrive
      dsimp only
      rw [if_pos hsame]
      exact htdrive.trans hsdrive.symm
    · have htrip : (s.input k).mode = .trip := by
        obtain ⟨-, -, -, -, hsmode, -⟩ := hslines l
        obtain ⟨-, -, -, -, htmode, -⟩ := htlines l
        rw [hk] at hsmode htmode
        by_cases hdis : (s.line l).state = .disarmed
        · rw [← hmode]
          exact htmode fun h => hsame (h.trans hdis.symm)
        · exact hsmode hdis
      dsimp only
      rw [if_neg hsame, htdrive, htrip]
      have htripped : lineTripped t k = decide ((t.line l).state = .tripped) := by
        simp only [lineTripped, hline]
        rfl
      rw [htripped]
      cases (s.input k).polarity <;> cases decide ((t.line l).state = .tripped) <;> rfl

/-! ### The lines after record operations -/

section
variable {new : SubId → Slice → Slice} {report : Slice → Option LineNo} {need : SubId → Slice → List Announced}
  {s t : State}

/-- Exactly the ids that report leave the alarm set of line m. -/
structure Orderly (new : SubId → Slice → Slice) (report : Slice → Option LineNo) (s : State) (m : LineNo) : Prop where
  shrink : AlarmsShrink new report s m
  gone : ∀ j : SubId, report (sliceOf s j) = some m → inAlarmSet (new j (sliceOf s j)).watch m = false

theorem Orderly.after (h : Orderly new report s m) (j : SubId) :
    inAlarmSet (new j (sliceOf s j)).watch m =
      (inAlarmSet (s.watch j) m && !decide (report (sliceOf s j) = some m)) := by
  by_cases hrep : report (sliceOf s j) = some m
  · rw [h.gone j hrep, decide_eq_true hrep, Bool.not_true, Bool.and_false]
  · rw [(h.shrink j).2 hrep, decide_eq_false hrep, Bool.not_false, Bool.and_true]

theorem RecordSteps.slice_all (h : RecordSteps new report need s subIds t) (j : SubId) :
    sliceOf t j = new j (sliceOf s j) := (h.slice j).trans (if_pos (mem_subIds j))

theorem mem_reporters {m : LineNo} {i : SubId} {p : List SubId} :
    i ∈ reporters report s m p ↔ i ∈ p ∧ report (sliceOf s i) = some m := by
  simp [reporters]

/-- The alarm sets without the ids that reported. -/
theorem RecordSteps.alarms (h : RecordSteps new report need s subIds t) (hs : AlarmLaw s) (ht : AlarmLaw t)
    {m : LineNo} (horder : Orderly new report s m) :
    t.alarms m = (s.alarms m).filter fun i => decide (i ∉ reporters report s m subIds) := by
  rw [alarms_of_slices ht m (f := fun j => new j (sliceOf s j)) h.slice_all, hs m, List.filter_filter]
  refine List.filter_congr fun j _ => ?_
  rw [horder.after j, Bool.and_comm]
  have hmem : j ∈ reporters report s m subIds ↔ report (sliceOf s j) = some m := by
    rw [mem_reporters]
    exact and_iff_right (mem_subIds j)
  simp only [hmem, decide_not]

/-- The release condition is found by the first report that leaves no id in the alarm set (R120). -/
theorem releasingExit_of_find (hs : AlarmLaw s) {m : LineNo} {i : SubId}
    {exits : List SubId} (hnil : (List.finRange 32).filter (fun j => inAlarmSet (new j (sliceOf s j)).watch m) = [])
    (hfind : exits.find? (fun i => decide (alarmsUpTo new s m i = [])) = some i) :
    releasingExit (s.alarms m) exits = some i := by
  have hsame : (fun i => decide (alarmsUpTo new s m i = [])) = fun i => (s.alarms m).all fun j => decide (j ≤ i) := by
    funext i
    refine Bool.eq_iff_iff.mpr ?_
    rw [decide_eq_true_iff, List.all_eq_true, hs m, alarmsUpTo, List.filter_eq_nil_iff]
    rw [List.filter_eq_nil_iff] at hnil
    refine ⟨fun h j hj => decide_eq_true ?_, fun h j hj hin => ?_⟩
    · obtain ⟨hj, hin⟩ := List.mem_filter.mp hj
      by_contra hle
      exact h j hj (by rw [if_neg hle]; exact hin)
    · by_cases hle : j ≤ i
      · rw [if_pos hle] at hin
        exact hnil j hj hin
      · rw [if_neg hle] at hin
        exact hle (of_decide_eq_true (h j (List.mem_filter.mpr ⟨hj, hin⟩)))
  rw [hsame] at hfind
  exact hfind

/-- The lines and pins after record operations, and what is told of a release. -/
structure LinesTold (report : Slice → Option LineNo) (l : List Announced) (s t : State) : Prop where
  follow : LinesFollow (fun m => reporters report s m subIds) s t
  released : ∀ m : LineNo, reporters report s m subIds ≠ [] → Releasable (t.alarms m) (s.line m) →
    ∃ i : SubId, releasingExit (s.alarms m) (reporters report s m subIds) = some i ∧ releasedByExit m i ∈ l

theorem RecordSteps.toldAll (h : RecordSteps new report need s subIds t) (hc : Changes s t)
    (horder : LineLaws s → ∀ m, Orderly new report s m) :
    ∃ l : List Announced, Told s.seq.fn l s t ∧ (∀ i, need i (sliceOf s i) ⊆ l) ∧
      (LineLaws s → LinesTold report l s t) := by
  obtain ⟨l, htold, hneed, hlines⟩ := h.told
  refine ⟨l, htold, fun i => hneed i (mem_subIds i), fun hlaws => ?_⟩
  have horder := horder hlaws
  obtain ⟨halarm, hwindow, htrip⟩ := hlaws
  have halarm' : AlarmLaw t := Changes.keep alarmLaw_kept hc halarm
  have htrip' : TripLaw t := Changes.keep tripLaw_kept hc htrip
  refine ⟨⟨fun m => ⟨h.alarms halarm halarm' (horder m), (hlines halarm m (horder m).shrink).1⟩,
    pinsFollow_of_laws htrip htrip' h.modes⟩, fun m hne hrelease => ?_⟩
  obtain ⟨i, hfind, hi⟩ := (hlines halarm m (horder m).shrink).2 hne hrelease
  obtain ⟨-, -, -, hnil⟩ := hrelease
  rw [alarms_of_slices halarm' m (f := fun j => new j (sliceOf s j)) h.slice_all] at hnil
  exact ⟨i, releasingExit_of_find halarm hnil hfind, hi⟩

end

/-! ### Promotion and the return to FREE leave the alarm sets in order -/

theorem inAlarmSet_generation (w : Option Watch) (g : BitVec 8) (m : LineNo) :
    inAlarmSet (w.map fun v => { v with generation := g }) m = inAlarmSet w m := by
  cases w <;> rfl

theorem inAlarmSet_closing {s : State} (h : WindowLaw s) {i : SubId} (hst : (s.record i).state = .closing)
    (m : LineNo) : inAlarmSet (s.watch i) m = false := by
  obtain ⟨-, -, -, hclosing, -⟩ := h i
  cases hw : s.watch i with
  | none => rfl
  | some w => exact inAlarmSet_frozen (hclosing hst w hw) m

/-- A watch that leaves no alarm set, or leaves it with a report. -/
theorem Orderly.of_cases {new : SubId → Slice → Slice} {report : Slice → Option LineNo} {s : State} {m : LineNo}
    (h : ∀ j : SubId,
      (inAlarmSet (new j (sliceOf s j)).watch m = inAlarmSet (s.watch j) m ∧ report (sliceOf s j) = none) ∨
      (inAlarmSet (new j (sliceOf s j)).watch m = false ∧
        (report (sliceOf s j) ≠ some m → inAlarmSet (s.watch j) m = false))) :
    Orderly new report s m := by
  refine ⟨fun j => ⟨fun hin => ?_, fun hrep => ?_⟩, fun j hrep => ?_⟩
  · rcases h j with ⟨hsame, -⟩ | ⟨hgone, -⟩
    · rwa [hsame] at hin
    · rw [hgone] at hin
      cases hin
  · rcases h j with ⟨hsame, -⟩ | ⟨hgone, hbefore⟩
    · exact hsame
    · rw [hgone, hbefore hrep]
  · rcases h j with ⟨-, hnone⟩ | ⟨hgone, -⟩
    · rw [hnone] at hrep
      cases hrep
    · exact hgone

theorem closing_orderly {s : State} (h : WindowLaw s) (m : LineNo) : Orderly closedSlice closingExit s m := by
  refine .of_cases fun j => ?_
  by_cases hst : (s.record j).state = .closing
  · have hslice : closedSlice j (sliceOf s j) = freedSlice := if_pos hst
    rw [hslice]
    exact .inr ⟨rfl, fun _ => inAlarmSet_closing h hst m⟩
  · have hslice : closedSlice j (sliceOf s j) = sliceOf s j := if_neg hst
    rw [hslice]
    exact .inl ⟨rfl, if_neg hst⟩

theorem promotion_orderly {s : State} (h : WindowLaw s) (m : LineNo) : Orderly promotedSlice promotionExit s m := by
  refine .of_cases fun j => ?_
  have hrecord : (sliceOf s j).record = s.record j := rfl
  have hwatch : (sliceOf s j).watch = s.watch j := rfl
  obtain ⟨-, -, -, -, hfree⟩ := h j
  have hstay (hnot : (s.record j).state ≠ .closing) (hstays : watchPartChanges (s.record j) = false) :
      promotionExit (sliceOf s j) = none := by
    rw [promotionExit, leavesAtPromotion, hrecord, hstays]
    exact if_neg (by simpa using hnot)
  unfold promotedSlice promotedWatch
  simp only [hrecord, hwatch]
  split
  next p hst hp =>
    have hbefore : inAlarmSet (s.watch j) m = false := by
      rw [hfree (.inr hst)]
      rfl
    exact .inl ⟨(inAlarmSet_started p.watch 0 m).trans hbefore.symm, hstay (fun h => by cases hst.symm.trans h) (by simp [watchPartChanges, hst])⟩
  next p hst hp =>
    split
    next hpart =>
      have hstays : watchPartChanges (s.record j) = false := by simp [watchPartChanges, hp, hpart]
      exact .inl ⟨inAlarmSet_generation _ _ m, hstay (fun h => by cases hst.symm.trans h) hstays⟩
    next hpart =>
      refine .inr ⟨inAlarmSet_started p.watch _ m, fun hrep => Bool.eq_false_iff.mpr fun hin => hrep ?_⟩
      have hleaves : leavesAtPromotion (s.record j) = true := by
        simp [leavesAtPromotion, watchPartChanges, hst, hp, hpart]
      rw [promotionExit, hrecord, hwatch, if_pos hleaves]
      exact inAlarmSet_exitLine hin
  next hst => exact .inr ⟨rfl, fun _ => inAlarmSet_closing h hst m⟩
  next hst hp => exact .inl ⟨rfl, hstay (fun h => by cases hst.symm.trans h) (by simp [watchPartChanges, hst])⟩
  next hst hp => exact .inl ⟨rfl, hstay (fun h => by cases hst.symm.trans h) (by simp [watchPartChanges, hp])⟩
  next hst => exact .inl ⟨rfl, hstay (fun h => by cases hst.symm.trans h) (by simp [watchPartChanges, hst])⟩

/-- The ids that leave an alarm state bound to a line. -/
theorem reporters_eq {report : Slice → Option LineNo} {s : State} {m : LineNo} {leaves : SubId → Bool}
    (h : ∀ i, report (sliceOf s i) = if leaves i then exitLine (s.watch i) else none) :
    reporters report s m subIds = exitIds m leaves s := by
  refine List.filter_congr fun i _ => Bool.eq_iff_iff.mpr ?_
  rw [decide_eq_true_iff, h i, Bool.and_eq_true, boundInAlarm_iff]
  cases leaves i <;> simp

end Sys2Proof.Machine
end

section
/-! SUPPORT. A frame boundary (R20, R36, R40, R69, R70, R96): the list, the spot queue, and the boundary whole. -/

namespace Sys2Proof.Machine

open Sys2Proof.Safety

/-! ### Events before and after what has been offered -/

section
variable {fn fn' : FrameNo} {a : Announced} {l : List Announced} {s t u : State}

theorem Offered.before (h : Told fn' l s t) (ho : Offered fn a t u) : Offered fn a s u := by
  intro m hm
  have hreach : reaches t m a = true := (reaches_congr h.hpc m a).trans hm
  obtain ⟨before, after, hq⟩ := ho m hreach
  refine ⟨(l.filter (reaches s m)).map (Announced.entry · fn') ++ before, after, ?_⟩
  rw [hq, h.events m, eventsAfter, List.foldl_append, List.foldl_map]

theorem Offered.after (ho : Offered fn a s t) (h : Told fn' l t u) : Offered fn a s u := by
  intro m hm
  obtain ⟨before, after, hq⟩ := ho m hm
  refine ⟨before, after ++ (l.filter (reaches t m)).map (Announced.entry · fn'), ?_⟩
  rw [h.events m, eventsAfter, hq, List.foldl_append, List.foldl_map]

theorem LastEvent.of_told (hpc : t.hpc = s.hpc) (h : Told fn [a] t u) : LastEvent fn a s u := fun m hm =>
  (Told.last (l := []) h) m ((reaches_congr hpc m a).trans hm)

end

/-! ### The entries of a spot queue that a boundary neither renames nor reorders -/

/-- What stays of a spot entry as long as it stands in the queue. -/
def spotIdentity (e : SpotEntry) : Port × Byte × InputNo × Option ProfileNo := (e.port, e.tag, e.input, e.profile)

theorem spotsConsidered_identity (l : List SpotEntry) :
    (spotsConsidered l).map spotIdentity = (l.filter fun e => !e.expiring).map spotIdentity := by
  rw [spotsConsidered, List.map_filterMap, ← List.filterMap_eq_map, List.filterMap_filter]
  refine List.filterMap_congr fun e _ => ?_
  by_cases hw : e.place = .waiting
  · cases hc : e.considered
    · simp [SpotEntry.expiring, hw, hc, spotIdentity]
    · by_cases hr : e.remaining ≤ 1 <;> simp [SpotEntry.expiring, hw, hc, hr, spotIdentity]
  · simp [SpotEntry.expiring, hw]

theorem identity_of_unplaced {q q' : List SpotEntry}
    (h : q'.map (fun e => { e with place := .waiting }) = q.map (fun e => { e with place := .waiting })) :
    q'.map spotIdentity = q.map spotIdentity := by
  have := congrArg (List.map spotIdentity) h
  rwa [List.map_map, List.map_map] at this

theorem spotsConsidered_place {l : List SpotEntry} {e : SpotEntry} (h : e ∈ spotsConsidered l) :
    ∃ e' ∈ l, e.place = e'.place := by
  obtain ⟨e', he', hsome⟩ := List.mem_filterMap.mp h
  refine ⟨e', he', ?_⟩
  split at hsome
  · split at hsome
    · rw [← Option.some.inj hsome]
    · split at hsome
      · cases hsome
      · rw [← Option.some.inj hsome]
  · rw [← Option.some.inj hsome]

/-! ### The assignment when the planned entries may be more than the slots -/

theorem assignSpots_max (slots : Nat) (planned : List ListEntry) (q : List SpotEntry) :
    assignSpots slots planned q = assignSpots (max slots planned.length) planned q := by
  by_cases hroom : planned.length ≤ slots
  · rw [Nat.max_eq_left hroom]
  · rw [Nat.max_eq_right (by omega)]
    induction q with
    | nil => rw [assignSpots, assignSpots]
    | cons e q ih =>
      by_cases he : e.place = .waiting
      · cases hx : planned.find? fun x => x.input == e.input with
        | some x => rw [assignSpots_shared q he hx, assignSpots_shared q he hx, ih]
        | none =>
          rw [assignSpots_left q he hx (by omega), assignSpots_left q he hx (lt_irrefl _), ih]
      · rw [assignSpots_placed q he, assignSpots_placed q he, ih]

theorem plannedList_numbered_max (s : State) :
    Numbered (max s.seq.slots (plannedList s).length) (plannedList s) := by
  refine ⟨plannedList_slot s, ?_, Nat.le_max_right _ _⟩
  rw [plannedList_input]
  exact (List.nodup_finRange 16).filter _

/-- The list and the spot queue of a new frame are an assignment (R70). -/
theorem frameList_assigned (s : State) : ∃ spare q',
    frameList s = (plannedList s ++ spare, q') ∧
    Assigned (max s.seq.slots (plannedList s).length) (plannedList s) (spotsConsidered s.seq.spots) spare q' := by
  obtain ⟨spare, q', h⟩ := assigned (spotsConsidered s.seq.spots) (plannedList_numbered_max s)
  exact ⟨spare, q', (assignSpots_max _ _ _).trans h.result, h⟩

/-! ### The spot queue of a new frame, when no entry was left assigned -/

section
variable {slots : Nat} {planned spare : List ListEntry} {q q' : List SpotEntry}

/-- Of two lists, entry by entry. -/
theorem filter_input_of_zip {q q' : List SpotEntry} (hlength : q.length = q'.length)
    (h : ∀ p ∈ q.zip q', p.2.input = p.1.input ∧ (p.2.place ≠ .inFlight ↔ p.1.place = .waiting)) :
    (q'.filter fun e => decide (e.place ≠ .inFlight)).map SpotEntry.input =
      (q.filter fun e => decide (e.place = .waiting)).map SpotEntry.input := by
  induction q generalizing q' with
  | nil =>
    cases q' with
    | nil => rfl
    | cons _ _ => cases hlength
  | cons e q ih =>
    cases q' with
    | nil => cases hlength
    | cons e' q' =>
      obtain ⟨hinput, hplace⟩ := h (e, e') List.mem_cons_self
      have hrest := ih (Nat.succ.inj hlength) fun p hp => h p (List.mem_cons_of_mem _ hp)
      dsimp only at hinput hplace
      by_cases hw : e.place = .waiting
      · rw [List.filter_cons_of_pos (by simpa using hplace.mpr hw), List.filter_cons_of_pos (by simpa using hw),
          List.map_cons, List.map_cons, hinput, hrest]
      · rw [List.filter_cons_of_neg (by simpa using fun h' => hw (hplace.mp h')),
          List.filter_cons_of_neg (by simpa using hw), hrest]

theorem Assigned.length (h : Assigned slots planned q spare q') : q.length = q'.length := by
  have := congrArg List.length h.unplaced
  simpa using this.symm

theorem Assigned.sameInput (h : Assigned slots planned q spare q') {p : SpotEntry × SpotEntry} (hp : p ∈ q.zip q') :
    p.2.input = p.1.input := by
  have hinputs : q'.map SpotEntry.input = q.map SpotEntry.input := by
    have := congrArg (List.map SpotEntry.input) h.unplaced
    rwa [List.map_map, List.map_map] at this
  obtain ⟨i, hi, hget⟩ := List.mem_iff_getElem.mp hp
  rw [List.getElem_zip] at hget
  subst hget
  have hlength := h.length
  rw [List.length_zip] at hi
  have := congrArg (·[i]?) hinputs
  simpa [List.getElem?_map, List.getElem?_eq_getElem (show i < q.length by omega),
    List.getElem?_eq_getElem (show i < q'.length by omega)] using this

theorem Assigned.place_iff (h : Assigned slots planned q spare q')
    (hq : ∀ e ∈ q, e.place = .waiting ∨ e.place = .inFlight) {p : SpotEntry × SpotEntry} (hp : p ∈ q.zip q') :
    p.2.place ≠ .inFlight ↔ p.1.place = .waiting := by
  by_cases hw : p.1.place = .waiting
  · refine ⟨fun _ => hw, fun _ hflight => ?_⟩
    have hwaiting := h.waiting p hp hw
    split at hwaiting
    · rw [hflight] at hwaiting
      cases hwaiting
    · rw [hflight] at hwaiting
      cases hwaiting.1
  · have hflight : p.1.place = .inFlight := (hq p.1 (List.of_mem_zip hp).1).resolve_left hw
    rw [h.others p hp hw]
    exact ⟨fun hne => absurd hflight hne, fun h' => absurd h' hw⟩

theorem Assigned.spare_inputs (h : Assigned slots planned q spare q')
    (hq : ∀ e ∈ q, e.place = .waiting ∨ e.place = .inFlight) :
    spare.map ListEntry.input =
      ((((q'.filter fun e => decide (e.place ≠ .inFlight)).map SpotEntry.input).filter fun k =>
        decide (k ∉ planned.map ListEntry.input)).eraseDups.take (slots - planned.length)) := by
  rw [h.inputs, unconverted, filter_input_of_zip h.length fun p hp => ⟨h.sameInput hp, h.place_iff hq hp⟩]

theorem Assigned.place_of (h : Assigned slots planned q spare q')
    (hq : ∀ e ∈ q, e.place = .waiting ∨ e.place = .inFlight) {e : SpotEntry} (he : e ∈ q')
    (hplace : e.place ≠ .inFlight) :
    e.place = match (planned ++ spare).find? (fun x => decide (x.input = e.input)) with
      | some x => .listed x.slot
      | none => .waiting := by
  obtain ⟨i, hi, rfl⟩ := List.mem_iff_getElem.mp he
  have hlength := h.length
  have hp : (q[i], q'[i]) ∈ q.zip q' :=
    List.mem_iff_getElem.mpr ⟨i, by rw [List.length_zip]; omega, List.getElem_zip⟩
  have hwaiting := h.waiting _ hp ((h.place_iff hq hp).mp hplace)
  have hinput : q'[i].input = q[i].input := h.sameInput hp
  dsimp only at hwaiting
  rw [← hinput] at hwaiting
  have hfind : (planned ++ spare).find? (fun x => x.input == q'[i].input) =
      (planned ++ spare).find? (fun x => decide (x.input = q'[i].input)) := rfl
  rw [hfind] at hwaiting
  revert hwaiting
  cases (planned ++ spare).find? fun x => decide (x.input = q'[i].input) with
  | some x => exact fun h => h
  | none => exact fun h => h.1

end

/-! ### A frame boundary whole -/

/-- What the building of the list leaves of promotion's state s (R40, R69, R70). -/
structure FrameBuilt (s t : State) : Prop where
  seq : t.seq = startFrameTimers { s.seq with list := (frameList s).1, spots := (frameList s).2 }
  subt : t.subt = s.subt
  asu : t.asu = s.asu
  wtu : t.wtu = s.wtu
  tripc : t.tripc = s.tripc
  latest : t.dlv.latest = s.dlv.latest
  conv : t.conv = s.conv
  routed : t.isel.routed = s.isel.routed
  refOk : t.isel.refOk = s.isel.refOk
  refin : t.isel.refin = s.isel.refin
  inputs : ∀ k : InputNo, (t.input k).mode = (s.input k).mode ∧ (t.input k).polarity = (s.input k).polarity ∧
    (t.input k).drive = (s.input k).drive
  resetting : t.resetting = s.resetting
  freeCount : t.freeCount = s.freeCount
  pending : t.pending = s.pending
  told : Told s.seq.fn ((s.seq.spots.filter SpotEntry.expiring).map spotExpired) s t

theorem frameStarted_eq (s : State) : frameStarted s =
    (afterEvents ((s.seq.spots.filter SpotEntry.expiring).map spotExpired)
      (spotsLeft (spotsConsidered s.seq.spots) (s.seq.spots.filter SpotEntry.expiring) s)).withSeq
      (startFrameTimers { s.seq with list := (frameList s).1, spots := (frameList s).2 }) := by
  rw [frameStarted, expireSpots_eq]
  rfl

theorem frameStarted_built (s : State) : FrameBuilt s (frameStarted s) := by
  have htold : Told s.seq.fn ((s.seq.spots.filter SpotEntry.expiring).map spotExpired) s
      (afterEvents ((s.seq.spots.filter SpotEntry.expiring).map spotExpired)
        (spotsLeft (spotsConsidered s.seq.spots) (s.seq.spots.filter SpotEntry.expiring) s)) :=
    Told.after (s := s) (t := spotsLeft (spotsConsidered s.seq.spots) (s.seq.spots.filter SpotEntry.expiring) s)
      rfl rfl
  have hinput (k : InputNo) : (frameStarted s).input k = { s.input k with
      useCount := (s.input k).useCount -
        ((s.seq.spots.filter SpotEntry.expiring).filter fun e => decide (e.input = k)).length } := by
    rw [frameStarted_eq]
    exact spotsLeft_input (spotsConsidered s.seq.spots) (s.seq.spots.filter SpotEntry.expiring) s k
  rw [frameStarted_eq] at hinput ⊢
  exact ⟨rfl, rfl, rfl, rfl, rfl, rfl, rfl, rfl, rfl, rfl, fun k => by
    rw [hinput k]
    exact ⟨rfl, rfl, rfl⟩, rfl, rfl, rfl, htold.congr_right rfl rfl⟩

/-! ### Promotion moves no reservation (R5, R20) -/

theorem exitIfAlarm_subt (i : SubId) (w : Option Watch) (s : State) : (exitIfAlarm i w s).subt = s.subt :=
  (exitIfAlarm_exits i w s).subt

theorem recordDropped_plan {i : SubId} {s : State} (h : (s.record i).reserved = none) :
    (recordDropped i s).subt.plan = s.subt.plan := by
  have hplan : (recordDropped i s).subt.plan = tabulate fun r => tabulate fun k =>
      trial s (s.record i).reserved none r k := rfl
  rw [hplan, h]
  exact table_ext fun r => by
    rw [tabulate_getElem]
    exact table_ext fun k => by rw [tabulate_getElem]; rfl

theorem recordRetaken_plan {i : SubId} {p : Params} {s : State} (hst : (s.record i).state = .active)
    (hp : (s.record i).staged = some p) : (recordRetaken i p s).subt.plan = s.subt.plan := by
  refine updateRecord_plan_same (s := s) ((reserved_staged (.inr hst) hp).trans ?_)
  simp [SubRecord.reserved, hst]

theorem promoteRecord_plan (i : SubId) (s : State) : (promoteRecord i s).subt.plan = s.subt.plan := by
  unfold promoteRecord
  dsimp only
  split
  next p hst hp =>
    refine updateRecord_plan_same (s := s) ((reserved_staged (.inl hst) hp).trans ?_)
    simp [SubRecord.reserved]
  next p hst hp =>
    have hplan := recordRetaken_plan hst hp
    rw [takeStaged_eq, watchEvent_eq]
    split
    · exact hplan
    · split
      · exact hplan
      · split
        · exact (congrArg Subt.plan (exitIfAlarm_subt _ _ _)).trans hplan
        · exact hplan
  next hst =>
    rw [freeRecord_eq]
    exact (congrArg Subt.plan (exitIfAlarm_subt _ _ _)).trans
      (recordDropped_plan (by rw [SubRecord.reserved, hst]))
  all_goals rfl

theorem promoteAll_plan (s : State) : (promoteAll s).subt.plan = s.subt.plan := by
  unfold promoteAll
  generalize subIds = l
  induction l generalizing s with
  | nil => rfl
  | cons i l ih => exact (ih _).trans (promoteRecord_plan i s)

end Sys2Proof.Machine
end

section
/-! SUPPORT. A frame boundary whole (R20, R36, R40, R69, R70, R96). -/

namespace Sys2Proof.Machine

open Sys2Proof.Safety

/-! ### SEQ and the slices of the ids -/

section
variable (s : State)

theorem beginFrame_built : FrameBuilt (promoteAll (frameOpened s)) (beginFrame s) := by
  rw [beginFrame_eq]
  exact frameStarted_built _

theorem promoted_seq : (promoteAll (frameOpened s)).seq =
    { s.seq with fn := s.seq.fn + 1, cut := false, slot := 0, list := [] } :=
  (promoteAll_kept (frameOpened s)).1

theorem beginFrame_seq : (beginFrame s).seq =
    startFrameTimers { s.seq with
      fn := s.seq.fn + 1, cut := false, slot := 0
      list := (frameList (promoteAll (frameOpened s))).1, spots := (frameList (promoteAll (frameOpened s))).2 } := by
  rw [(beginFrame_built s).seq, promoted_seq]

theorem beginFrame_slice (i : SubId) : sliceOf (beginFrame s) i = promotedSlice i (sliceOf s i) := by
  have h : sliceOf (beginFrame s) i = sliceOf (promoteAll (frameOpened s)) i := by
    obtain ⟨-, hsubt, hasu, hwtu, -, hlatest, -⟩ := beginFrame_built s
    simp only [sliceOf, State.record, State.window, State.watch, hsubt, hasu, hwtu, hlatest]
  exact h.trans ((promoteAll_steps (frameOpened s)).slice_all i)

theorem beginFrame_plan : (beginFrame s).subt.plan = s.subt.plan :=
  (congrArg Subt.plan (beginFrame_built s).subt).trans (promoteAll_plan (frameOpened s))

theorem beginFrame_profile (p : ProfileNo) : (beginFrame s).profile p = activated (s.profile p) := by
  have h : (beginFrame s).profile p = (promoteAll (frameOpened s)).profile p :=
    congrArg (fun a : Asu => a.profiles[p]) (beginFrame_built s).asu
  have hopened : (promoteAll (frameOpened s)).profile p = (frameOpened s).profile p :=
    congrArg (fun ps : Vector Profile 8 => ps[p]) (promoteAll_kept (frameOpened s)).2
  exact h.trans (hopened.trans (activateProfiles_profile p _))

/-! ### What is told, and the lines -/

theorem lineLaws_opened (h : LineLaws s) : LineLaws (frameOpened s) := h

/-- The lines and pins of a later state with the same alarm sets, lines and pins. -/
theorem LinesTold.congr {report : Slice → Option LineNo} {l : List Announced} {s t u : State}
    (h : LinesTold report l s t) (hwtu : u.wtu = t.wtu) (htripc : u.tripc = t.tripc)
    (hdrive : ∀ k : InputNo, (u.input k).drive = (t.input k).drive) : LinesTold report l s u := by
  have halarms (m : LineNo) : u.alarms m = t.alarms m := congrArg (fun w : Wtu => w.alarms[m]) hwtu
  have hline (m : LineNo) : u.line m = t.line m := congrArg (·.lines[m]) htripc
  obtain ⟨⟨hlines, hpins⟩, hreleased⟩ := h
  refine ⟨⟨fun m => ?_, fun k => ?_⟩, fun m => ?_⟩
  · rw [halarms m, hline m]
    exact hlines m
  · simp only [hdrive k, hline]
    exact hpins k
  · rw [halarms m]
    exact hreleased m

theorem LinesTold.weaken {report : Slice → Option LineNo} {l k : List Announced} {s t : State}
    (h : LinesTold report l s t) (hlk : l ⊆ k) : LinesTold report k s t :=
  ⟨h.follow, fun m hne hrelease => (h.released m hne hrelease).imp fun _ ⟨hi, hmem⟩ => ⟨hi, hlk hmem⟩⟩

theorem beginFrame_told : ∃ l : List Announced, Told (s.seq.fn + 1) l s (beginFrame s) ∧
    (∀ i, promotionEvents i (sliceOf s i) ⊆ l) ∧ (s.seq.spots.filter SpotEntry.expiring).map spotExpired ⊆ l ∧
    (LineLaws s → LinesTold promotionExit l s (beginFrame s)) := by
  obtain ⟨l, htold, hneed, hlines⟩ := (promoteAll_steps (frameOpened s)).toldAll (promoteAll_changes _)
    fun h m => promotion_orderly h.2.1 m
  have hbuilt := beginFrame_built s
  have htold' := hbuilt.told
  rw [promoted_seq] at htold'
  have hpromoted (hlaws : LineLaws s) : LinesTold promotionExit l s (promoteAll (frameOpened s)) := by
    obtain ⟨hfollow, hreleased⟩ := hlines (lineLaws_opened s hlaws)
    exact ⟨hfollow, hreleased⟩
  have htold : Told (s.seq.fn + 1) l s (promoteAll (frameOpened s)) := ⟨htold.hpc, htold.queues⟩
  refine ⟨l ++ (s.seq.spots.filter SpotEntry.expiring).map spotExpired, htold.trans htold',
    fun i => List.Subset.trans (hneed i) (List.subset_append_left _ _), List.subset_append_right _ _,
    fun hlaws => ?_⟩
  exact ((hpromoted hlaws).congr hbuilt.wtu hbuilt.tripc fun k => (hbuilt.inputs k).2.2).weaken (List.subset_append_left _ _)

/-! ### The list and the spot queue -/

theorem plannedInputs_promoted :
    (plannedList (promoteAll (frameOpened s))).map ListEntry.input = plannedAt s (s.seq.fn + 1) := by
  rw [plannedList_input, promoted_seq]
  unfold plannedInputs
  rw [promoteAll_plan]
  rfl

theorem dueAt_claims (k : InputNo) (r : Residue) (x : SubRecord) :
    dueAt k r x = (decide (x.state = .active) && decide (claimAt x.current r k = 1)) := by
  unfold dueAt claimAt
  cases hc : x.current with
  | none => cases x.state <;> rfl
  | some p =>
    refine Bool.eq_iff_iff.mpr ?_
    simp [Params.covers, Params.frames]
    tauto

theorem dueSet_ids (s : State) (k : InputNo) : dueSet s (residueOf s.seq.fn) k =
    (dueIds s s.seq.fn k).map fun i => ⟨i, (s.record i).generation⟩ := by
  unfold dueSet dueIds
  simp only [dueAt_claims]
  rfl

theorem plannedList_due {s : State} {x : ListEntry} (hx : x ∈ plannedList s) : x.origin = .planned ∧
    x.due = (dueIds s s.seq.fn x.input).map fun i => ⟨i, (s.record i).generation⟩ := by
  rw [plannedList_eq] at hx
  obtain ⟨y, -, rfl⟩ := List.mem_map.mp hx
  exact ⟨rfl, dueSet_ids s y.1⟩

/-- The list and the spot queue of a frame begun from s (R40, R69, R70). -/
structure ListBegun (s t : State) : Prop where
  split : ∃ spare : List ListEntry, t.seq.list = plannedList (promoteAll (frameOpened s)) ++ spare ∧
    Assigned (max s.seq.slots (plannedAt s (s.seq.fn + 1)).length) (plannedList (promoteAll (frameOpened s)))
      (spotsConsidered s.seq.spots) spare t.seq.spots

theorem listBegun : ListBegun s (beginFrame s) := by
  obtain ⟨spare, q', hlist, hassigned⟩ := frameList_assigned (promoteAll (frameOpened s))
  have hlength : (plannedList (promoteAll (frameOpened s))).length = (plannedAt s (s.seq.fn + 1)).length := by
    rw [← plannedInputs_promoted, List.length_map]
  rw [hlength] at hassigned
  have hseq := beginFrame_seq s
  rw [hlist, startFrameTimers_eq] at hseq
  rw [promoted_seq] at hassigned
  exact ⟨spare, by rw [hseq], by rw [hseq]; exact hassigned⟩

end

section
variable {s t : State} (h : ListBegun s t)
include h

theorem ListBegun.take : t.seq.list.take (plannedAt s (s.seq.fn + 1)).length =
    plannedList (promoteAll (frameOpened s)) := by
  obtain ⟨spare, hlist, -⟩ := h
  rw [hlist, ← plannedInputs_promoted, List.length_map, List.take_left]

theorem ListBegun.slot : t.seq.list.map ListEntry.slot = (List.range t.seq.list.length).map (· + 1) := by
  obtain ⟨spare, hlist, hassigned⟩ := h
  rw [hlist]
  exact hassigned.numbered.slot

theorem ListBegun.spare {x : ListEntry} (hx : x ∈ t.seq.list.drop (plannedAt s (s.seq.fn + 1)).length) :
    x.origin = .spare ∧ x.due = [] := by
  obtain ⟨spare, hlist, hassigned⟩ := h
  rw [hlist, ← plannedInputs_promoted, List.length_map, List.drop_left] at hx
  obtain ⟨horigin, hdue, -⟩ := hassigned.spares x hx
  exact ⟨horigin, hdue⟩

theorem ListBegun.identity : t.seq.spots.map spotIdentity =
    (s.seq.spots.filter fun e => !e.expiring).map spotIdentity := by
  obtain ⟨spare, -, hassigned⟩ := h
  rw [identity_of_unplaced hassigned.unplaced, spotsConsidered_identity]

theorem ListBegun.sublist : (t.seq.spots.map spotIdentity).Sublist (s.seq.spots.map spotIdentity) := by
  rw [h.identity]
  exact List.filter_sublist.map _

/-- The spot queue and its list entries, when no entry was left assigned (R69, R70). -/
theorem ListBegun.spots (hq : ∀ e ∈ s.seq.spots, e.place = .waiting ∨ e.place = .inFlight) :
    t.seq.spots.map spotIdentity =
      (s.seq.spots.filter fun e => decide (e.place = .inFlight) || !e.considered || decide (1 < e.remaining)).map
        spotIdentity ∧
    (t.seq.list.drop (plannedAt s (s.seq.fn + 1)).length).map ListEntry.input =
      ((((t.seq.spots.filter fun e => decide (e.place ≠ .inFlight)).map SpotEntry.input).filter fun k =>
        decide (k ∉ plannedAt s (s.seq.fn + 1))).eraseDups.take
          (s.seq.slots - (plannedAt s (s.seq.fn + 1)).length)) ∧
    ∀ e ∈ t.seq.spots, e.place ≠ .inFlight →
      e.place = match t.seq.list.find? (fun x => decide (x.input = e.input)) with
        | some x => .listed x.slot
        | none => .waiting := by
  have hconsidered : ∀ e ∈ spotsConsidered s.seq.spots, e.place = .waiting ∨ e.place = .inFlight := fun e he => by
    obtain ⟨e', he', hplace⟩ := spotsConsidered_place he
    rw [hplace]
    exact hq e' he'
  refine ⟨?_, ?_, fun e he hplace => ?_⟩
  · rw [h.identity]
    refine congrArg _ (List.filter_congr fun e he => ?_)
    rcases hq e he with hw | hw
    · cases hc : e.considered
      · simp [SpotEntry.expiring, hw, hc]
      · have hover : decide (e.remaining ≤ 1) = !decide (1 < e.remaining) := by
          rw [← decide_not]
          exact decide_eq_decide.mpr not_lt.symm
        simp [SpotEntry.expiring, hw, hc, hover]
    · simp [SpotEntry.expiring, hw]
  · obtain ⟨spare, hlist, hassigned⟩ := h
    have hspare := hassigned.spare_inputs hconsidered
    rw [plannedInputs_promoted] at hspare
    have hlength : (plannedList (promoteAll (frameOpened s))).length = (plannedAt s (s.seq.fn + 1)).length := by
      rw [← plannedInputs_promoted, List.length_map]
    rw [hlist, ← hlength, List.drop_left, hspare]
    have hroom (a b : Nat) : max a b - b = a - b := by omega
    rw [hlength, hroom]
  · obtain ⟨spare, hlist, hassigned⟩ := h
    have := hassigned.place_of hconsidered he hplace
    rwa [← hlist] at this

end

end Sys2Proof.Machine
end

section
/-! SUPPORT. That a frame begun is a frame boundary, and what may stand before and behind it. -/

namespace Sys2Proof.Machine

open Sys2Proof.Safety

theorem line_of_tripc {s t : State} (h : t.tripc = s.tripc) (l : LineNo) : t.line l = s.line l :=
  congrArg (fun x : Tripc => x.lines[l]) h

theorem record_of_subt {s t : State} (h : t.subt = s.subt) (i : SubId) : t.record i = s.record i :=
  congrArg (fun x : Subt => x.records[i]) h

section
variable (s : State)

/-- What a frame boundary does not touch. -/
theorem beginFrame_configuration : ConfigurationKept s (beginFrame s) := by
  have hsteps := promoteAll_steps (frameOpened s)
  have hbuilt := beginFrame_built s
  have hseq := beginFrame_seq s
  rw [startFrameTimers_eq] at hseq
  refine ⟨fun k => ?_, hbuilt.refin.trans hsteps.refin, by rw [hseq], by rw [hseq], by rw [hseq], by rw [hseq],
    beginFrame_plan s, fun l => ?_⟩
  · obtain ⟨hmode, hpolarity, -⟩ := hbuilt.inputs k
    obtain ⟨hmode', hpolarity'⟩ := hsteps.modes k
    exact ⟨hmode.trans hmode', hpolarity.trans hpolarity'⟩
  · rw [line_of_tripc hbuilt.tripc l]
    exact hsteps.trips l

theorem promotion_leaves {s : State} {m : LineNo} :
    reporters promotionExit s m subIds = exitIds m (fun i => leavesAtPromotion (s.record i)) s :=
  reporters_eq fun _ => rfl

/-- A frame begun is a frame boundary, and what is told at it. -/
theorem beginFrame_boundary :
    ∃ l : List Announced, Told (s.seq.fn + 1) l s (beginFrame s) ∧ Boundary s (beginFrame s) := by
  obtain ⟨l, htold, hneed, hexpired, hlines⟩ := beginFrame_told s
  have hsteps := promoteAll_steps (frameOpened s)
  have hbuilt := beginFrame_built s
  have hlist := listBegun s
  have hseq := beginFrame_seq s
  have hslice := beginFrame_slice s
  have hconfig := beginFrame_configuration s
  have hprofile := beginFrame_profile s
  rw [startFrameTimers_eq] at hseq
  refine ⟨l, htold, ?_⟩
  have hfn : (beginFrame s).seq.fn = s.seq.fn + 1 := by rw [hseq]
  have hplanned : ∀ x ∈ plannedList (promoteAll (frameOpened s)), x.origin = .planned ∧
      x.due = (dueIds (beginFrame s) (s.seq.fn + 1) x.input).map fun i =>
        ⟨i, ((beginFrame s).record i).generation⟩ := fun x hx => by
    have hrecord := record_of_subt hbuilt.subt
    obtain ⟨horigin, hdue⟩ := plannedList_due hx
    rw [promoted_seq] at hdue
    refine ⟨horigin, hdue.trans ?_⟩
    unfold dueIds
    simp only [hrecord]
  have hinputs := plannedInputs_promoted s
  have htake := hlist.take
  have hspots := hlist.spots
  have hslot := hlist.slot
  have hsublist := hlist.sublist
  have hspare : ∀ x ∈ (beginFrame s).seq.list.drop (plannedAt s (s.seq.fn + 1)).length,
      x.origin = .spare ∧ x.due = [] := fun x hx => hlist.spare hx
  have hconv := hbuilt.conv.trans hsteps.conv
  have hrouted := hbuilt.routed.trans hsteps.routed
  have hrefOk := hbuilt.refOk.trans hsteps.refOk
  have hresetting := hbuilt.resetting.trans hsteps.resetting
  have hfree := hbuilt.freeCount.trans hsteps.freeCount
  have hpending := hbuilt.pending.trans hsteps.pending
  clear hlist hbuilt hsteps
  generalize plannedList (promoteAll (frameOpened s)) = planned at *
  generalize frameList (promoteAll (frameOpened s)) = listed at *
  generalize beginFrame s = t at *
  unfold Boundary
  rw [hfn]
  refine ⟨rfl, by rw [hseq], by rw [hseq], by rw [hseq], by rw [hseq], by rw [hseq], hconfig, hrouted, hrefOk,
    hsublist, fun e he hw hc hr => ?_, hspots, fun i hi => ?_, fun i w hpart hw halarm => ?_, fun hlaws => ?_,
    fun i => ?_, hprofile, htake ▸ hinputs, hslot, fun x hx => hplanned x (htake ▸ hx), hspare, hconv, htold.hpc,
    htold.samples, hresetting, hfree, hpending⟩
  · refine htold.offered (hexpired (List.mem_map.mpr ⟨e, List.mem_filter.mpr ⟨he, ?_⟩, rfl⟩))
    simp [SpotEntry.expiring, hw, hc, hr]
  · refine htold.offered (hneed i ?_)
    have hevents : promotionEvents i (sliceOf s i) = [subEndedOf i (s.record i)] := if_pos hi
    rw [hevents]
    exact List.mem_singleton_self _
  · refine htold.offered (hneed i ?_)
    have hnot : (sliceOf s i).record.state ≠ .closing := fun h => by
      have hstate : (s.record i).state = .closing := h
      simp [watchPartChanges, hstate] at hpart
    have hin : inAlarm (sliceOf s i).watch = true := by
      rw [show (sliceOf s i).watch = some w from hw]
      exact halarm
    have hchanges : watchPartChanges (sliceOf s i).record = true := hpart
    rw [promotionEvents, if_neg hnot, hchanges, hin]
    exact List.mem_singleton_self _
  · obtain ⟨hfollow, hreleased⟩ := hlines hlaws
    simp only [promotion_leaves] at hfollow hreleased
    refine ⟨hfollow, fun m hne hrelease => ?_⟩
    obtain ⟨i, hi, hmem⟩ := hreleased m hne hrelease
    exact ⟨i, hi, htold.offered hmem⟩
  · have hi := hslice i
    exact ⟨congrArg Slice.record hi, congrArg Slice.window hi, congrArg Slice.watch hi, congrArg Slice.latest hi⟩

end

/-! ### Boundaries with other port controllers and other queues -/

/-- The state s with other port controllers and other queues. -/
def withTold (p : Vector PortCtl 3) (q : Vector PortQueues 3) (s : State) : State :=
  { s with hpc := p, dlv := { s.dlv with queues := q } }

section
variable {p p' : Vector PortCtl 3} {q q' : Vector PortQueues 3} {s t : State}

/-- What a boundary says of the port controllers and the queues, and nothing else of them. -/
theorem Boundary.retold (h : Boundary s t) (hp : p' = p)
    (hoffered : ∀ a, Offered (s.seq.fn + 1) a s t →
      Offered (s.seq.fn + 1) a (withTold p q s) (withTold p' q' t))
    (hsamples : ∀ n : Port, q'[n].samples = q[n].samples ∧ q'[n].sampleUnacked = q[n].sampleUnacked ∧
      q'[n].lost = q[n].lost) : Boundary (withTold p q s) (withTold p' q' t) := by
  obtain ⟨hfn, hcut, hslot, hvotes, hstarter, hcause, hconfig, hrouted, hrefOk, hsublist, hexpired, hspots, hended,
    hclear, hlines, hrecords, hprofiles, htake, hslots, hplanned, hspare, hconv, -, -, hresetting, hfree,
    hpending⟩ := h
  refine ⟨hfn, hcut, hslot, hvotes, hstarter, hcause, hconfig, hrouted, hrefOk, hsublist,
    fun e he hw hc hr => hoffered _ (hexpired e he hw hc hr), hspots, fun i hi => hoffered _ (hended i hi),
    fun i w hpart hw halarm => hoffered _ (hclear i w hpart hw halarm), fun hlaws => ?_, hrecords, hprofiles, htake,
    hslots, hplanned, hspare, hconv, hp, hsamples, hresetting, hfree, hpending⟩
  obtain ⟨hfollow, hreleased⟩ := hlines hlaws
  exact ⟨hfollow, fun l hne hrelease => (hreleased l hne hrelease).imp fun i ⟨hi, ho⟩ => ⟨hi, hoffered _ ho⟩⟩

end

section
variable {fn : FrameNo} {l : List Announced} {s t u : State}

/-- Events told right before a boundary. -/
theorem Boundary.before (h : Boundary (afterEvents l s) t) : Boundary s t := by
  have hqueues := h
  obtain ⟨-, -, -, -, -, -, -, -, -, -, -, -, -, -, -, -, -, -, -, -, -, -, hhpc, hsamples, -⟩ := hqueues
  have htold := told_afterEvents l s
  refine Boundary.retold (s := afterEvents l s) (p := s.hpc) (q := s.dlv.queues) (p' := t.hpc) (q' := t.dlv.queues)
    h hhpc (fun a ho => Offered.before htold ho) fun n => ?_
  obtain ⟨hs, hu, hl⟩ := hsamples n
  obtain ⟨hs', hu', hl'⟩ := htold.samples n
  exact ⟨hs.trans hs', hu.trans hu', hl.trans hl'⟩

/-- Events told right behind a boundary. -/
theorem Boundary.after (l : List Announced) (h : Boundary s t) : Boundary s (afterEvents l t) := by
  have hqueues := h
  obtain ⟨-, -, -, -, -, -, -, -, -, -, -, -, -, -, -, -, -, -, -, -, -, -, hhpc, hsamples, -⟩ := hqueues
  have htold := told_afterEvents l t
  refine Boundary.retold (p := s.hpc) (q := s.dlv.queues) (p' := t.hpc) (q' := (afterEvents l t).dlv.queues)
    h hhpc (fun a ho => Offered.after ho htold) fun n => ?_
  obtain ⟨hs, hu, hl⟩ := hsamples n
  obtain ⟨hs', hu', hl'⟩ := htold.samples n
  exact ⟨hs'.trans hs, hu'.trans hu, hl'.trans hl⟩

end

/-- An event reaches the same ports when their settings are the same. -/
theorem reaches_settings {s t : State} (h : ∀ m : Port, SameSettings (t.port m) (s.port m)) (m : Port)
    (a : Announced) : reaches t m a = reaches s m a := by
  obtain ⟨-, hsession, -, -, hmask⟩ := h m
  simp only [reaches, attached, hsession, hmask]

/-- A boundary taken with port controllers of the same settings. -/
theorem Boundary.ports {s t : State} {p : Vector PortCtl 3} (h : Boundary s t)
    (hsame : ∀ m : Port, SameSettings p[m] (s.port m)) :
    Boundary { s with hpc := p } { t with hpc := p } := by
  refine Boundary.retold (s := s) (t := t) (p := p) (q := s.dlv.queues) (p' := p) (q' := t.dlv.queues) h rfl
    (fun a ho m hm => ho m ?_) ?_
  · rw [← hm]
    exact (reaches_settings (s := s) (t := withTold p s.dlv.queues s) hsame m a).symm
  · obtain ⟨-, -, -, -, -, -, -, -, -, -, -, -, -, -, -, -, -, -, -, -, -, -, -, hsamples, -⟩ := h
    exact hsamples

end Sys2Proof.Machine
end

section
/-! SUPPORT. The first boundary (R31), and the timers of a frame (R38, R39). -/

namespace Sys2Proof.Machine

open Sys2Proof.Safety

/-- A number alone in a detail. -/
theorem causeDetail_number (v : Nat) : causeDetail 0 (byteOf v) = BitVec.ofNat 16 (v % 256) := by
  refine BitVec.eq_of_toNat_eq ?_
  rw [causeDetail, byteOf, BitVec.toNat_append]
  simp
  omega

section
variable (s : State)

theorem beginFrame_timers : (beginFrame s).seq.state = s.seq.state ∧ (beginFrame s).seq.sync = s.seq.sync ∧
    (beginFrame s).seq.frameTimer = (if s.seq.sync = .locked then none else some (s.seq.slots + 1)) ∧
    (beginFrame s).seq.syncTimer = (if s.seq.sync = .locked then some (64 * s.seq.syncTimeout) else none) := by
  rw [beginFrame_seq, startFrameTimers_eq]
  exact ⟨rfl, rfl, rfl, rfl⟩

theorem spotsReturned_eq : returnSpots s = spotsReturned s := by
  have h : returnEntry = fun e => if e.place = .inFlight then e else { e with place := .waiting } := by
    funext e
    unfold returnEntry
    cases hp : e.place
    · simp [← hp]
    · simp
    · simp
  rw [returnSpots, h]
  rfl

/-- The SEQ_STARTED of a starting voter (R31, Table 10-8). -/
def seqStartedOf (v : Port) (slots : Nat) : Announced :=
  ⟨everyPort, .seqStarted, BitVec.ofNat 8 v.val, BitVec.ofNat 16 (slots % 256)⟩

/-- A first boundary taken from s. -/
structure FirstBoundary (s t : State) : Prop where
  boundary : Boundary s t
  state : t.seq.state = .running
  sync : t.seq.sync = s.seq.sync
  frameTimer : t.seq.frameTimer = if s.seq.sync = .locked then none else some (s.seq.slots + 1)
  syncTimer : t.seq.syncTimer = if s.seq.sync = .locked then some (64 * s.seq.syncTimeout) else none
  told : ∃ l, Told (s.seq.fn + 1) l s t
  last : ∀ v, s.seq.starter = some v → LastEvent t.seq.fn (seqStartedOf v s.seq.slots) s t

theorem firstBoundary_taken : FirstBoundary s (firstBoundary s) := by
  have hboundary := beginFrame_boundary (s.withSeq { s.seq with state := .running })
  have htimers := beginFrame_timers (s.withSeq { s.seq with state := .running })
  unfold firstBoundary
  generalize beginFrame (s.withSeq { s.seq with state := .running }) = t at *
  obtain ⟨l, htold, hboundary⟩ := hboundary
  have hboundary : Boundary s t := hboundary
  obtain ⟨hstate, hsync, hframe, htimer⟩ := htimers
  obtain ⟨-, -, -, -, hstarter, -, ⟨-, -, hslots, -⟩, -⟩ := hboundary
  have htold : Told (s.seq.fn + 1) l s t := ⟨htold.hpc, htold.queues⟩
  have hfn : t.seq.fn = s.seq.fn + 1 := by
    obtain ⟨hfn, -⟩ := hboundary
    exact hfn
  dsimp only
  cases hv : t.seq.starter with
  | none =>
    exact ⟨hboundary, hstate, hsync, hframe, htimer, ⟨l, htold⟩, fun v hs => by rw [← hstarter, hv] at hs; cases hs⟩
  | some v =>
    have hevent : (⟨PortSet.all, .seqStarted, portByte v, causeDetail 0 (byteOf t.seq.slots)⟩ : Announced) =
        seqStartedOf v s.seq.slots := by
      rw [causeDetail_number, hslots]
      rfl
    have hevents := told_afterEvents [seqStartedOf v s.seq.slots] t
    rw [hfn] at hevents
    dsimp only
    rw [raise_eq, hevent]
    refine ⟨Boundary.after (s := s) _ hboundary, hstate, hsync, hframe, htimer, ⟨_, htold.trans hevents⟩, fun v' hs => ?_⟩
    obtain rfl : v = v' := Option.some.inj (hv.symm.trans (hstarter.trans hs))
    exact LastEvent.of_told htold.hpc (told_afterEvents _ t)

end

end Sys2Proof.Machine
end

section
/-! SUPPORT. The entry to STOPPED (R14, R23, R33, R34, R61, R73, R96). -/

namespace Sys2Proof.Machine

open Sys2Proof.Safety

/-! ### Use counts and reservations when CLOSING records become FREE (R4, R5, R14) -/

theorem updateLine_useCount (l : LineNo) (x : Line) (s : State) (k : InputNo) :
    ((updateLine l x s).input k).useCount = (s.input k).useCount := by
  rw [updateLine_input]

theorem exitReport_useCount (l : LineNo) (i : SubId) (s : State) (k : InputNo) :
    ((exitReport l i s).input k).useCount = (s.input k).useCount := by
  rw [exitReport_eq]
  split
  · exact updateLine_useCount l _ s k
  · rfl

theorem exitIfAlarm_useCount (i : SubId) (w : Option Watch) (s : State) (k : InputNo) :
    ((exitIfAlarm i w s).input k).useCount = (s.input k).useCount := by
  rw [exitIfAlarm_filter]
  split
  · rfl
  · split
    · rfl
    · exact exitReport_useCount _ i s k

theorem freeRecord_useCount (i : SubId) (s : State) (k : InputNo) :
    ((freeRecord i s).input k).useCount = (s.input k).useCount - if (s.record i).names k then 1 else 0 := by
  have hdropped : (recordDropped i s).input k = _ := tabulate_getElem _ k
  have hfreed : ((recordFreed i s).input k).useCount = ((recordDropped i s).input k).useCount := rfl
  rw [freeRecord_eq, exitIfAlarm_useCount, hfreed, hdropped]
  have hnone : ({} : SubRecord).names k = false := rfl
  simp only [hnone, Bool.false_and, Bool.not_false, Bool.and_true, Bool.false_eq_true, if_false, Nat.add_zero]

theorem freeRecord_plan {i : SubId} {s : State} (h : (s.record i).state = .closing) :
    (freeRecord i s).subt.plan = s.subt.plan := by
  rw [freeRecord_eq]
  exact (congrArg Subt.plan (exitIfAlarm_subt _ _ _)).trans (recordDropped_plan (by rw [SubRecord.reserved, h]))

theorem freeClosing_plan (s : State) : (freeClosing s).subt.plan = s.subt.plan := by
  unfold freeClosing
  generalize subIds = l
  induction l generalizing s with
  | nil => rfl
  | cons i l ih =>
    refine (ih _).trans ?_
    dsimp only
    split
    next h => exact freeRecord_plan h
    next => rfl

/-- Is the record CLOSING with input k among its named inputs? -/
def closingNames (s : State) (k : InputNo) (i : SubId) : Bool :=
  decide ((s.record i).state = .closing) && (s.record i).names k

theorem freeClosing_useCount (s : State) (k : InputNo) :
    ((freeClosing s).input k).useCount =
      (s.input k).useCount - ((List.finRange 32).filter (closingNames s k)).length := by
  unfold freeClosing subIds
  have hnodup : (List.finRange 32).Nodup := List.nodup_finRange 32
  generalize List.finRange 32 = l at hnodup ⊢
  induction l generalizing s with
  | nil => rfl
  | cons i l ih =>
    obtain ⟨hi, hnodup⟩ := List.nodup_cons.mp hnodup
    rw [List.foldl_cons, ih _ hnodup]
    by_cases h : (s.record i).state = .closing
    · have hrest : l.filter (closingNames (freeRecord i s) k) = l.filter (closingNames s k) := by
        refine List.filter_congr fun j hj => ?_
        have hj : sliceOf (freeRecord i s) j = sliceOf s j :=
          ((freeRecord_step i s).slice j).trans (if_neg fun hji : j = i => hi (hji ▸ hj))
        have hrecord : (freeRecord i s).record j = s.record j := congrArg Slice.record hj
        rw [closingNames, closingNames, hrecord]
      rw [if_pos h, hrest, freeRecord_useCount]
      cases hn : (s.record i).names k
      · rw [List.filter_cons_of_neg (by simp [closingNames, hn])]
        simp
      · rw [List.filter_cons_of_pos (by simp [closingNames, hn, h]), List.length_cons, if_pos rfl]
        omega
    · rw [if_neg h, List.filter_cons_of_neg (by simp [closingNames, h])]

/-! ### Standalone service and the power-down condition (R61, R73, R74) -/

/-- What standalone service and the power-down condition leave. -/
structure StandaloneKept (s t : State) : Prop where
  seq : t.seq = { s.seq with spots := t.seq.spots }
  spots : t.seq.spots.map unplaced = s.seq.spots.map unplaced
  subt : t.subt = s.subt
  asu : t.asu = s.asu
  wtu : t.wtu = s.wtu
  tripc : t.tripc = s.tripc
  latest : t.dlv.latest = s.dlv.latest
  inputs : t.isel.inputs = s.isel.inputs
  refin : t.isel.refin = s.isel.refin
  resetting : t.resetting = s.resetting
  freeCount : t.freeCount = s.freeCount
  pending : t.pending = s.pending
  told : ∃ l : List Announced, Told s.seq.fn l s t

theorem StandaloneKept.refl (s : State) : StandaloneKept s s :=
  ⟨rfl, rfl, rfl, rfl, rfl, rfl, rfl, rfl, rfl, rfl, rfl, rfl, [], .refl s⟩

theorem StandaloneKept.of_begun (k : InputNo) {l : List SpotEntry} {s : State}
    (h : l.map unplaced = s.seq.spots.map unplaced) :
    StandaloneKept s (conversionBegun k none [] (setSpots l s)) :=
  ⟨rfl, h, rfl, rfl, rfl, rfl, rfl, rfl, rfl, rfl, rfl, rfl, _,
    Told.after (s := s) (t := { setSpots l s with isel := _, conv := _ }) rfl rfl⟩

theorem startStandalone_kept (s : State) : StandaloneKept s (startStandalone s) := by
  rcases startStandalone_cases s with h | ⟨e, rest, -, -, -, -, h⟩
  · rw [h]
    exact .refl s
  · rw [h, beginConversion_begun]
    exact .of_begun e.input (assignStandalone_unplaced _ _)

theorem StandaloneKept.judge {s t : State} (h : StandaloneKept s t) : StandaloneKept s (judgePower t) := by
  obtain ⟨l, htold⟩ := h.told
  rw [judgePower_eq]
  exact { h with told := ⟨l, htold.congr_right rfl rfl⟩ }

theorem judgePower_busy {s : State} (h : s.conv.power ≠ .ready ∨ s.conv.conversion ≠ none) : judgePower s = s :=
  if_neg fun ⟨hready, _, _, hidle⟩ => h.elim (· hready) (· hidle)

/-- A converter that is not READY or not idle serves nothing and stays as it is (R61, R73). -/
theorem standalone_busy {s : State} (h : s.conv.power ≠ .ready ∨ s.conv.conversion ≠ none) :
    judgePower (startStandalone s) = s := by
  rw [startStandalone_idle fun ⟨_, hready, hidle⟩ => h.elim (· hready) (· hidle), judgePower_busy h]

theorem standalone_running {s : State} (h : s.seq.state ≠ .stopped) : judgePower (startStandalone s) = s := by
  rw [startStandalone_idle fun ⟨hstopped, _⟩ => h hstopped, judgePower, if_neg fun ⟨_, hstopped, _⟩ => h hstopped]

/-- A READY converter with nothing to do goes OFF (R61). -/
theorem standalone_empty {s : State} (hstopped : s.seq.state = .stopped) (hready : s.conv.power = .ready)
    (hidle : s.conv.conversion = none) (hspots : s.seq.spots = []) :
    judgePower (startStandalone s) = { s with conv := { s.conv with power := .off } } := by
  have hserve : startStandalone s = s := by
    rcases startStandalone_cases s with h | ⟨e, rest, hs, -⟩
    · exact h
    · rw [hspots] at hs
      cases hs
  rw [hserve, judgePower, if_pos ⟨hready, hstopped, hspots, hidle⟩]
  rfl

/-- A waiting head entry is served with those behind it for the same input (R73, R74). -/
theorem standalone_head {s : State} {e : SpotEntry} (hstopped : s.seq.state = .stopped)
    (hready : s.conv.power = .ready) (hidle : s.conv.conversion = none) (he : e ∈ s.seq.spots.head?)
    (hw : e.place = .waiting) : judgePower (startStandalone s) = standaloneBegun e.input s := by
  obtain ⟨rest, hs⟩ := List.head?_eq_some_iff.mp he
  rw [startStandalone_begun hs hw hstopped hready hidle]
  exact judgePower_busy (.inl fun h => by cases h)

/-- Standalone service begins with the conversion, its reference check and the event of that. -/
theorem standaloneBegun_starts (k : InputNo) (s : State) : StandaloneStarts everyPort k s (standaloneBegun k s) :=
  ⟨rfl, rfl, rfl, fun a ha => by
    have haudience : { a with audience := everyPort } = a := by
      unfold referenceEvents at ha
      split at ha
      · cases ha
      · rw [List.mem_singleton.mp ha]
      · rw [List.mem_singleton.mp ha]
      · cases ha
    rw [haudience]
    exact (Told.after (s := s) (t := { s with seq := _, isel := _, conv := _ }) rfl rfl).offered ha⟩

end Sys2Proof.Machine
end

section
/-! SUPPORT. The entry to STOPPED whole, and what may stand before and behind it (R33, R34). -/

namespace Sys2Proof.Machine

open Sys2Proof.Safety

/-! ### SEQ stopped and the CLOSING records freed -/

/-- What of the entry to STOPPED happens before standalone service. -/
structure SequencerStopped (s p : State) : Prop where
  seq : p.seq = s.seq.stopped
  conv : p.conv = s.conv
  hpc : p.hpc = s.hpc
  plan : p.subt.plan = s.subt.plan
  slice : ∀ i, sliceOf p i = closedSlice i (sliceOf s i)
  profile : ∀ n : ProfileNo, p.profile n = activated (s.profile n)
  modes : ∀ k : InputNo, (p.input k).mode = (s.input k).mode ∧ (p.input k).polarity = (s.input k).polarity
  useCount : ∀ k : InputNo, (p.input k).useCount =
    (s.input k).useCount - ((List.finRange 32).filter (closingNames s k)).length
  trips : ∀ m : LineNo, (p.line m).arming = (s.line m).arming ∧ (p.line m).count = (s.line m).count
  refin : p.isel.refin = s.isel.refin
  routed : p.isel.routed = s.isel.routed
  refOk : p.isel.refOk = s.isel.refOk
  resetting : p.resetting = s.resetting
  freeCount : p.freeCount = s.freeCount
  pending : p.pending = s.pending
  told : ∃ l : List Announced, Told s.seq.fn l s p ∧ (∀ i, closingEvents i (sliceOf s i) ⊆ l) ∧
    (LineLaws s → LinesTold closingExit l s p)

theorem sequencerStopped_stopped (s : State) : SequencerStopped s (sequencerStopped s) := by
  have hsteps := freeClosing_steps ((activateProfiles s).withSeq s.seq.stopped)
  obtain ⟨l, htold, hneed, hlines⟩ := hsteps.toldAll (freeClosing_changes _) fun h m => closing_orderly h.2.1 m
  have hplan := freeClosing_plan ((activateProfiles s).withSeq s.seq.stopped)
  have hcount := freeClosing_useCount ((activateProfiles s).withSeq s.seq.stopped)
  unfold sequencerStopped
  generalize freeClosing ((activateProfiles s).withSeq s.seq.stopped) = p at *
  exact {
    seq := hsteps.seq
    conv := hsteps.conv
    hpc := hsteps.hpc
    plan := hplan
    slice := fun i => hsteps.slice_all i
    profile := fun n => (congrArg (fun ps : Vector Profile 8 => ps[n]) hsteps.profiles).trans
      (activateProfiles_profile n s)
    modes := hsteps.modes
    useCount := hcount
    trips := hsteps.trips
    refin := hsteps.refin
    routed := hsteps.routed
    refOk := hsteps.refOk
    resetting := hsteps.resetting
    freeCount := hsteps.freeCount
    pending := hsteps.pending
    told := ⟨l, ⟨htold.hpc, htold.queues⟩, hneed, fun hlaws => by
      obtain ⟨hfollow, hreleased⟩ := hlines hlaws
      exact ⟨hfollow, hreleased⟩⟩ }

theorem closing_leaves {s : State} {m : LineNo} : reporters closingExit s m subIds =
    exitIds m (fun i => decide ((s.record i).state = .closing)) s :=
  reporters_eq fun i => by
    have hrecord : (sliceOf s i).record = s.record i := rfl
    simp only [closingExit, hrecord, decide_eq_true_eq]
    rfl

theorem mem_of_releasingExit {alarms exits : List SubId} {i : SubId} (h : releasingExit alarms exits = some i) :
    i ∈ exits := List.mem_of_find?_eq_some h

/-- Standalone service begun after changes that the converter does not see. -/
theorem StandaloneStarts.before {audience : PortSet} {k : InputNo} {l : List Announced} {s p t : State}
    (h : StandaloneStarts audience k p t) (htold : Told s.seq.fn l s p) (hfn : p.seq.fn = s.seq.fn)
    (hdivider : p.seq.divider = s.seq.divider) (hconv : p.conv = s.conv) (hrefin : p.isel.refin = s.isel.refin)
    (hrefOk : p.isel.refOk = s.isel.refOk) : StandaloneStarts audience k s t := by
  obtain ⟨hrouted, hflag, hbusy, hoffered⟩ := h
  rw [hrefin] at hflag hoffered hbusy
  rw [hconv, hdivider] at hbusy
  rw [hrefOk, hfn] at hoffered
  exact ⟨hrouted, hflag, hbusy, fun a ha => Offered.before htold (hoffered a ha)⟩

theorem standaloneBegun_spots {s p : State} (k : InputNo) (h : p.seq.spots = s.seq.spots) :
    (standaloneBegun k p).seq.spots = (standaloneBegun k s).seq.spots := by
  have hspots (s : State) : (standaloneBegun k s).seq.spots =
      (s.seq.spots.takeWhile fun e => decide (e.input = k)).map (fun e => { e with place := .inFlight }) ++
        s.seq.spots.dropWhile fun e => decide (e.input = k) := rfl
  rw [hspots, hspots, h]

/-! ### The entry to STOPPED -/

/-- The entry to STOPPED after what happens before standalone service. -/
theorem SequencerStopped.enters {s p t : State} (h : SequencerStopped s p) (hkept : StandaloneKept p t)
    (ht : judgePower (startStandalone p) = t) :
    (∃ l, Told s.seq.fn l s t) ∧ t.seq.votes = s.seq.votes ∧ t.seq.haltCause = s.seq.haltCause ∧
      EntersStopped s t := by
  obtain ⟨l, htold, hneed, hlines⟩ := h.told
  obtain ⟨k, htold'⟩ := hkept.told
  rw [h.seq] at htold'
  have hall : Told s.seq.fn (l ++ k) s t := htold.trans htold'
  have hseq := hkept.seq
  rw [h.seq] at hseq
  have hpspots : p.seq.spots = s.seq.spots := by rw [h.seq]; rfl
  have hpstate : p.seq.state = .stopped := by rw [h.seq]; rfl
  have hpdivider : p.seq.divider = s.seq.divider := by rw [h.seq]; rfl
  have hpfn : p.seq.fn = s.seq.fn := by rw [h.seq]; rfl
  have hinput (x : InputNo) : t.input x = p.input x := congrArg (·[x]) hkept.inputs
  have hline (m : LineNo) : t.line m = p.line m := line_of_tripc hkept.tripc m
  have hslice (i : SubId) : sliceOf t i = closedSlice i (sliceOf s i) := by
    rw [← h.slice i]
    simp only [sliceOf, State.record, State.window, State.watch, hkept.subt, hkept.asu, hkept.wtu, hkept.latest]
  have hvotes : t.seq.votes = s.seq.votes := by rw [hseq]; rfl
  have hcause : t.seq.haltCause = s.seq.haltCause := by rw [hseq]; rfl
  refine ⟨⟨_, hall⟩, hvotes, hcause, ?_⟩
  refine ⟨by rw [hseq]; rfl, by rw [hseq]; rfl, by rw [hseq]; rfl, by rw [hseq]; rfl, by rw [hseq]; rfl,
    by rw [hseq]; rfl, ⟨fun x => ?_, hkept.refin.trans h.refin, by rw [hseq]; rfl, by rw [hseq]; rfl,
      by rw [hseq]; rfl, by rw [hseq]; rfl, (congrArg Subt.plan hkept.subt).trans h.plan, fun m => ?_⟩,
    hkept.spots.trans (by rw [hpspots]), fun x => ?_, ?_, fun i => ?_, fun n => ?_, fun i hi => ?_, fun hlaws => ?_,
    fun hbusy => ?_, fun hready hidle hempty => ?_, fun hready hidle e he hw => ?_, hall.samples,
    hkept.resetting.trans h.resetting, hkept.freeCount.trans h.freeCount, hkept.pending.trans h.pending⟩
  · rw [hinput x]
    exact h.modes x
  · rw [hline m]
    exact h.trips m
  · rw [hinput x]
    exact h.useCount x
  · have hsync : t.seq.sync = restSync s.seq.source := by rw [hseq]; rfl
    rw [hsync]
    cases s.seq.source <;> rfl
  · have hi := hslice i
    by_cases hc : (s.record i).state = .closing
    · have hfreed : closedSlice i (sliceOf s i) = freedSlice := if_pos hc
      rw [hfreed] at hi
      simp only [if_pos hc]
      exact ⟨congrArg Slice.record hi, congrArg Slice.window hi, congrArg Slice.watch hi, congrArg Slice.latest hi⟩
    · have hsame : closedSlice i (sliceOf s i) = sliceOf s i := if_neg hc
      rw [hsame] at hi
      simp only [if_neg hc]
      exact ⟨congrArg Slice.record hi, congrArg Slice.window hi, congrArg Slice.watch hi, congrArg Slice.latest hi⟩
  · exact (congrArg (fun a : Asu => a.profiles[n]) hkept.asu).trans (h.profile n)
  · refine hall.offered (List.mem_append_left _ (hneed i ?_))
    have hevents : closingEvents i (sliceOf s i) = [subEndedOf i (s.record i)] := if_pos hi
    rw [hevents]
    exact List.mem_singleton_self _
  · obtain ⟨hfollow, hreleased⟩ := (hlines hlaws).congr hkept.wtu hkept.tripc fun x => by rw [hinput x]
    simp only [closing_leaves] at hfollow hreleased
    refine ⟨hfollow, fun m hne hrelease => ?_⟩
    obtain ⟨i, hi, hmem⟩ := hreleased m hne hrelease
    exact ⟨i, mem_of_releasingExit hi, hall.offered (List.mem_append_left _ hmem)⟩
  · rw [← h.conv] at hbusy
    obtain rfl : p = t := (standalone_busy hbusy).symm.trans ht
    exact ⟨h.conv, h.routed, h.refOk, hpspots⟩
  · rw [← h.conv] at hready hidle
    have hoff := standalone_empty hpstate hready hidle (hpspots.trans hempty)
    rw [ht] at hoff
    subst hoff
    exact ⟨by rw [← h.conv], h.routed, h.refOk, hpspots.trans hempty⟩
  · rw [← h.conv] at hready hidle
    rw [← hpspots] at he
    have hserved := standalone_head hpstate hready hidle he hw
    rw [ht] at hserved
    have hstarts := standaloneBegun_starts e.input p
    rw [← hserved] at hstarts
    refine ⟨StandaloneStarts.before hstarts htold hpfn hpdivider h.conv h.refin h.refOk, ?_⟩
    rw [hserved]
    exact standaloneBegun_spots e.input hpspots

/-! ### The entry to STOPPED with other port controllers and other queues -/

section
variable {p p' : Vector PortCtl 3} {q q' : Vector PortQueues 3} {s t : State}

/-- What the entry to STOPPED says of the port controllers and the queues, and nothing else of them. -/
theorem EntersStopped.retold (h : EntersStopped s t)
    (hoffered : ∀ a, Offered s.seq.fn a s t → Offered s.seq.fn a (withTold p q s) (withTold p' q' t))
    (hsamples : ∀ n : Port, q'[n].samples = q[n].samples ∧ q'[n].sampleUnacked = q[n].sampleUnacked ∧
      q'[n].lost = q[n].lost) : EntersStopped (withTold p q s) (withTold p' q' t) := by
  obtain ⟨hstate, hframe, htimer, hlist, hstarter, hfn, hconfig, hspots, hcount, hsync, hrecords, hprofiles, hended,
    hlines, hbusy, hempty, hserved, -, hresetting, hfree, hpending⟩ := h
  refine ⟨hstate, hframe, htimer, hlist, hstarter, hfn, hconfig, hspots, hcount, hsync, hrecords, hprofiles,
    fun i hi => hoffered _ (hended i hi), fun hlaws => ?_, hbusy, hempty, fun hready hidle e he hw => ?_, hsamples,
    hresetting, hfree, hpending⟩
  · obtain ⟨hfollow, hreleased⟩ := hlines hlaws
    exact ⟨hfollow, fun l hne hrelease => (hreleased l hne hrelease).imp fun i ⟨hi, ho⟩ => ⟨hi, hoffered _ ho⟩⟩
  · obtain ⟨⟨hrouted, hflag, hconv, hevents⟩, hleft⟩ := hserved hready hidle e he hw
    exact ⟨⟨hrouted, hflag, hconv, fun a ha => hoffered _ (hevents a ha)⟩, hleft⟩

theorem EntersStopped.samples (h : EntersStopped s t) (n : Port) : (t.queues n).samples = (s.queues n).samples ∧
    (t.queues n).sampleUnacked = (s.queues n).sampleUnacked ∧ (t.queues n).lost = (s.queues n).lost := by
  obtain ⟨-, -, -, -, -, -, -, -, -, -, -, -, -, -, -, -, -, hsamples, -⟩ := h
  exact hsamples n

end

section
variable {l : List Announced} {s t : State}

/-- Events told right before the entry to STOPPED. -/
theorem EntersStopped.before (h : EntersStopped (afterEvents l s) t) : EntersStopped s t := by
  have htold := told_afterEvents l s
  refine EntersStopped.retold (s := afterEvents l s) (p := s.hpc) (q := s.dlv.queues) (p' := t.hpc)
    (q' := t.dlv.queues) h (fun a ho => Offered.before htold ho) fun n => ?_
  obtain ⟨hs, hu, hl⟩ := EntersStopped.samples h n
  obtain ⟨hs', hu', hl'⟩ := htold.samples n
  exact ⟨hs.trans hs', hu.trans hu', hl.trans hl'⟩

/-- Events told right behind the entry to STOPPED. -/
theorem EntersStopped.after (l : List Announced) (h : EntersStopped s t) : EntersStopped s (afterEvents l t) := by
  have htold := told_afterEvents l t
  refine EntersStopped.retold (p := s.hpc) (q := s.dlv.queues) (p' := t.hpc) (q' := (afterEvents l t).dlv.queues)
    h (fun a ho => Offered.after ho htold) fun n => ?_
  obtain ⟨hs, hu, hl⟩ := EntersStopped.samples h n
  obtain ⟨hs', hu', hl'⟩ := htold.samples n
  exact ⟨hs'.trans hs, hu'.trans hu, hl'.trans hl⟩

/-- The entry to STOPPED with port controllers of the same settings before it, and any behind it. -/
theorem EntersStopped.ports {p p' : Vector PortCtl 3} (h : EntersStopped s t)
    (hsame : ∀ m : Port, SameSettings p[m] (s.port m)) : EntersStopped { s with hpc := p } { t with hpc := p' } := by
  refine EntersStopped.retold (s := s) (t := t) (p := p) (q := s.dlv.queues) (p' := p') (q' := t.dlv.queues) h
    (fun a ho m hm => ho m ?_) (EntersStopped.samples h)
  rw [← hm]
  exact (reaches_settings (s := s) (t := withTold p s.dlv.queues s) hsame m a).symm

end

theorem enterStopped_enters (s : State) : (∃ l, Told s.seq.fn l s (enterStopped s)) ∧
    (enterStopped s).seq.votes = s.seq.votes ∧ (enterStopped s).seq.haltCause = s.seq.haltCause ∧
    EntersStopped s (enterStopped s) := by
  have hstopped := sequencerStopped_stopped s
  rw [enterStopped_eq]
  generalize sequencerStopped s = p at *
  exact hstopped.enters (startStandalone_kept p).judge rfl

/-- The SEQ_STOPPED of a halt cause (R33, Table 10-8). -/
def seqStoppedOf (h : HaltCause) : Announced :=
  ⟨everyPort, .seqStopped, BitVec.ofNat 8 h.port.val, if h.kind = .stop then 0 else 1⟩

/-- The end of the last frame of HALTING, the halt cause being there (R33). -/
structure HaltFinished (s t : State) : Prop where
  enters : EntersStopped s t
  haltCause : t.seq.haltCause = none
  votes : t.seq.votes = s.seq.votes
  hpc : t.hpc = s.hpc
  told : ∃ l, Told s.seq.fn l s t
  last : ∀ h, s.seq.haltCause = some h → LastEvent s.seq.fn (seqStoppedOf h) s t

theorem finishHalt_finished (s : State) : HaltFinished s (finishHalt s) := by
  have henters := enterStopped_enters s
  unfold finishHalt
  generalize enterStopped s = t at *
  obtain ⟨⟨l, htold⟩, hvotes, hcause, henters⟩ := henters
  have hfn : t.seq.fn = s.seq.fn := by
    obtain ⟨-, -, -, -, -, hfn, -⟩ := henters
    exact hfn
  dsimp only
  cases hc : t.seq.haltCause with
  | none =>
    exact ⟨henters, rfl, hvotes, htold.hpc, ⟨l, htold.congr_right rfl rfl⟩, fun h hs => by
      rw [← hcause, hc] at hs
      cases hs⟩
  | some c =>
    have hevent : (⟨PortSet.all, .seqStopped, portByte c.port, c.kind.value⟩ : Announced) = seqStoppedOf c := by
      obtain ⟨port, kind⟩ := c
      cases kind <;> rfl
    have hstopped := EntersStopped.after [seqStoppedOf c] henters
    have hevents := told_afterEvents [seqStoppedOf c] t
    rw [hfn] at hevents
    dsimp only
    rw [raise_eq, hevent]
    refine ⟨hstopped, rfl, hvotes, htold.hpc, ⟨l ++ [seqStoppedOf c], (htold.trans hevents).congr_right rfl rfl⟩,
      fun h hs => ?_⟩
    obtain rfl : c = h := Option.some.inj (hc.symm.trans (hcause.trans hs))
    exact LastEvent.of_told htold.hpc (hevents.congr_right rfl rfl)

end Sys2Proof.Machine
end

section
/-! PROOF. The frame timer (O26), SYNC edges that are not early (O27), and the sync timer (O29). -/

namespace Sys2Proof.Machine

open Sys2Proof.Safety

theorem unlessReset_ran {s : State} (f : State → State) (h : s.resetting = none) :
    unlessReset f s = .next (f s) := by
  simp [unlessReset, h]

/-- The end of a frame by a boundary. -/
theorem nextFrame_running {s : State} (h : s.seq.state = .running) : nextFrame s = beginFrame s := by
  simp [nextFrame, h]

theorem nextFrame_halting {s : State} (h : s.seq.state = .halting) : nextFrame s = finishHalt s := by
  simp [nextFrame, h]

/-- The frame timer's expiry ends the frame (R38). -/
theorem frameExpiry_ends {s : State} (h : s.seq.frameTimer ≠ none)
    (hs : s.seq.state = .running ∨ s.seq.state = .halting) : frameExpiry s = nextFrame (endFrame s) := by
  unfold frameExpiry
  cases hf : s.seq.frameTimer with
  | none => exact absurd hf h
  | some v => rcases hs with hs | hs <;> simp only [hs]

/-- What an operation leaves that ends the frame of HALTING, without regard to the place of spot entries. -/
theorem HaltFinished.returned {s t : State} (h : HaltFinished (spotsReturned s) t) :
    t.seq.haltCause = none ∧ t.seq.votes = s.seq.votes ∧ t.hpc = s.hpc ∧
      ∀ c, s.seq.haltCause = some c → LastEvent s.seq.fn (seqStoppedOf c) s t :=
  ⟨h.haltCause, h.votes, h.hpc, h.last⟩

end Sys2Proof.Machine

namespace Sys2Proof.Proofs

open Sys2Proof.Machine Sys2Proof.Safety

/-- Settles O26: a boundary in RUNNING, the entry to STOPPED in HALTING. -/
theorem frameTimerExpiry : Obligations.FrameTimerExpiry := by
  unfold Obligations.FrameTimerExpiry
  intro s hreset htimer hlocked
  have hexec : exec .frameTimerExpiry s = .next (frameExpiry s) := unlessReset_ran frameExpiry hreset
  rw [hexec]
  refine ⟨fun hs => ⟨_, rfl, ?_⟩, fun h hs hc => ⟨_, rfl, ?_⟩⟩
  · rw [frameExpiry_ends htimer (.inl hs), endFrame, spotsReturned_eq, nextFrame_running (s := spotsReturned s) hs]
    have hboundary := beginFrame_boundary (spotsReturned s)
    have htimers := beginFrame_timers (spotsReturned s)
    generalize beginFrame (spotsReturned s) = t at *
    obtain ⟨l, -, hboundary⟩ := hboundary
    obtain ⟨hstate, hsync, hframe, hsyncTimer⟩ := htimers
    exact ⟨hboundary, hstate.trans hs, hsync, hframe.trans (if_neg hlocked), hsyncTimer.trans (if_neg hlocked)⟩
  · rw [frameExpiry_ends htimer (.inr hs), endFrame, spotsReturned_eq, nextFrame_halting (s := spotsReturned s) hs]
    have hfinished := finishHalt_finished (spotsReturned s)
    generalize finishHalt (spotsReturned s) = t at *
    obtain ⟨hcause, hvotes, hhpc, hlast⟩ := hfinished.returned
    exact ⟨hfinished.enters, hcause, hvotes, hhpc, hlast h hc⟩

end Sys2Proof.Proofs
end

section
/-! PROOF. SYNC edges that are not early (O27), and the sync timer (O29). -/

namespace Sys2Proof.Machine

open Sys2Proof.Safety

/-! ### The end of a frame with events told right before it -/

/-- A boundary behind these events, with the timers that it starts. -/
structure BoundaryBehind (l : List Announced) (s t : State) : Prop where
  boundary : Boundary s t
  offered : ∀ a ∈ l, Offered s.seq.fn a s t
  state : t.seq.state = s.seq.state
  sync : t.seq.sync = s.seq.sync
  frameTimer : t.seq.frameTimer = if s.seq.sync = .locked then none else some (s.seq.slots + 1)
  syncTimer : t.seq.syncTimer = if s.seq.sync = .locked then some (64 * s.seq.syncTimeout) else none

theorem beginFrame_behind (l : List Announced) (s : State) : BoundaryBehind l s (beginFrame (afterEvents l s)) := by
  have hboundary := beginFrame_boundary (afterEvents l s)
  have htimers := beginFrame_timers (afterEvents l s)
  generalize beginFrame (afterEvents l s) = t at *
  obtain ⟨k, htold, hboundary⟩ := hboundary
  obtain ⟨hstate, hsync, hframe, hsyncTimer⟩ := htimers
  exact ⟨Boundary.before hboundary, fun a ha => Offered.after ((told_afterEvents l s).offered ha) htold, hstate, hsync,
    hframe, hsyncTimer⟩

/-- The end of the last frame behind these events. -/
structure HaltBehind (l : List Announced) (s t : State) : Prop where
  enters : EntersStopped s t
  haltCause : t.seq.haltCause = none
  votes : t.seq.votes = s.seq.votes
  hpc : t.hpc = s.hpc
  offered : ∀ a ∈ l, Offered s.seq.fn a s t
  last : ∀ h, s.seq.haltCause = some h → LastEvent s.seq.fn (seqStoppedOf h) s t

theorem finishHalt_behind (l : List Announced) (s : State) : HaltBehind l s (finishHalt (afterEvents l s)) := by
  have hfinished := finishHalt_finished (afterEvents l s)
  generalize finishHalt (afterEvents l s) = t at *
  obtain ⟨henters, hcause, hvotes, hhpc, ⟨k, htold⟩, hlast⟩ := hfinished
  exact ⟨EntersStopped.before henters, hcause, hvotes, hhpc,
    fun a ha => Offered.after ((told_afterEvents l s).offered ha) htold,
    fun h hc m hm => hlast h hc m ((reaches_congr rfl m _).trans hm)⟩

/-- Frames that end behind no event. -/
theorem beginFrame_plain (s : State) : BoundaryBehind [] s (beginFrame s) := by
  have h := beginFrame_behind [] s
  rwa [afterEvents_nil] at h

theorem finishHalt_plain (s : State) : HaltBehind [] s (finishHalt s) := by
  have h := finishHalt_behind [] s
  rwa [afterEvents_nil] at h

/-! ### Edges -/

/-- The state s with sync locked, the frame timer stopped and the sync timer started (R39, R46). -/
def syncRegained (s : State) : State :=
  s.withSeq { s.seq with sync := .locked, frameTimer := none, syncTimer := some (syncLoad s.seq) }

/-- The SYNC_REGAINED of an edge that is not early (R46). -/
def regainedOf : Announced := ⟨everyPort, .syncRegained, 0, 0⟩

theorem not_early {s : State} (h : ∀ x ∈ s.seq.list, x.slot ≤ s.seq.slot) : edgeIsEarly s = false := by
  have hnone : unbegunEntries s = [] := by
    refine List.filter_eq_nil_iff.mpr fun x hx => ?_
    have := h x hx
    simp only [ListEntry.unbegun, decide_eq_true_eq]
    omega
  rw [edgeIsEarly, hnone]
  rfl

section
variable {s : State} (hbegun : ∀ x ∈ s.seq.list, x.slot ≤ s.seq.slot)
include hbegun

/-- An edge in a frame all of whose entries have begun, under LOCKED timing (R39). -/
theorem edgeInFrame_locked (h : s.seq.sync = .locked) : edgeInFrame s = nextFrame (spotsReturned s) := by
  simp only [edgeInFrame, h, edgeEnd, not_early hbegun, ← spotsReturned_eq]
  rfl

/-- The same in FALLBACK: the edge regains sync (R46). -/
theorem edgeInFrame_fallback (h : s.seq.sync = .fallback) :
    edgeInFrame s = nextFrame (afterEvents [regainedOf] (spotsReturned (syncRegained s))) := by
  have hearly : edgeIsEarly (syncRegained s) = false := not_early (s := syncRegained s) hbegun
  have hedge : edgeInFrame s = nextFrame (regainEnd (syncRegained s)) := by
    simp only [edgeInFrame, h]
    rfl
  rw [hedge, regainEnd, hearly, raise_eq, endFrame, spotsReturned_eq]
  rfl

end

theorem takeEdge_inFrame {s : State} (hsource : s.seq.source = .external)
    (hs : s.seq.state = .running ∨ s.seq.state = .halting) : takeEdge s = edgeInFrame s := by
  unfold takeEdge
  rcases hs with hs | hs <;> simp only [hsource, hs]

theorem takeEdge_starting {s : State} (hsource : s.seq.source = .external) (hs : s.seq.state = .starting) :
    takeEdge s = edgeInStarting s := by
  simp only [takeEdge, hsource, hs]

/-- Edges that are ignored (R32, R34). -/
theorem takeEdge_ignored {s : State} (h : s.seq.source = .internal ∨ s.seq.state = .stopped ∨
    (s.seq.state = .starting ∧ (s.conv.power ≠ .ready ∨ s.conv.conversion ≠ none))) : takeEdge s = s := by
  cases hsource : s.seq.source with
  | internal => simp only [takeEdge, hsource]
  | external =>
    rcases h with h | h | ⟨hs, hbusy⟩
    · rw [hsource] at h
      cases h
    · simp only [takeEdge, hsource, h]
    · rw [takeEdge_starting hsource hs]
      exact if_neg fun ⟨_, hready, hidle⟩ => hbusy.elim (· hready) (· hidle)

/-! ### The sync timer -/

/-- The SYNC_LOST of an expiry (R45). -/
def lostOf : Announced := ⟨everyPort, .syncLost, 0, 0⟩

/-- The state s in FALLBACK with the sync timer stopped (R45). -/
def fallenBack (s : State) : State := s.withSeq { s.seq with sync := .fallback, syncTimer := none }

theorem loseSync_eq (s : State) : loseSync s = afterEvents [lostOf] (fallenBack s) := by
  rw [loseSync, raise_eq]
  rfl

theorem syncExpiry_inFrame {s : State} (h : s.seq.syncTimer ≠ none)
    (hs : s.seq.state = .running ∨ s.seq.state = .halting) :
    syncExpiry s = nextFrame (afterEvents [lostOf] (spotsReturned (fallenBack s))) := by
  have hreturned : endFrame (loseSync s) = afterEvents [lostOf] (spotsReturned (fallenBack s)) := by
    rw [endFrame, spotsReturned_eq, loseSync_eq]
    rfl
  unfold syncExpiry
  cases hf : s.seq.syncTimer with
  | none => exact absurd hf h
  | some v => rcases hs with hs | hs <;> simp only [hs, hreturned]

theorem syncExpiry_starting {s : State} (h : s.seq.syncTimer ≠ none) (hs : s.seq.state = .starting) :
    syncExpiry s = firstBoundary (afterEvents [lostOf] (fallenBack s)) := by
  rw [← loseSync_eq]
  unfold syncExpiry
  cases hf : s.seq.syncTimer with
  | none => exact absurd hf h
  | some v => simp only [hs]

end Sys2Proof.Machine

namespace Sys2Proof.Proofs

open Sys2Proof.Machine Sys2Proof.Safety

/-- Settles O27: the edges that are ignored, the first boundary, and the two ways in which a frame ends. -/
theorem syncEdge : Obligations.SyncEdge := by
  unfold Obligations.SyncEdge
  intro s hreset
  have hexec : exec .syncEdge s = .next (takeEdge s) := unlessReset_ran takeEdge hreset
  rw [hexec]
  refine ⟨fun h => by rw [takeEdge_ignored h], fun hsource hs hwaiting hready hidle => ⟨_, rfl, ?_⟩,
    fun hsource hs hsync hbegun => ⟨_, rfl, ?_⟩, fun h hsource hs hc hsync hbegun => ⟨_, rfl, ?_⟩⟩
  · have hfirst : takeEdge s = firstBoundary (s.withSeq { s.seq with sync := .locked }) := by
      rw [takeEdge_starting hsource hs]
      exact if_pos ⟨hwaiting, hready, hidle⟩
    rw [hfirst]
    have htaken := firstBoundary_taken (s.withSeq { s.seq with sync := .locked })
    generalize firstBoundary (s.withSeq { s.seq with sync := .locked }) = t at *
    exact ⟨htaken.boundary, ⟨htaken.state, htaken.sync, htaken.frameTimer, htaken.syncTimer⟩, htaken.last⟩
  · rw [takeEdge_inFrame hsource (.inl hs)]
    rcases hsync with hsync | hsync
    · rw [edgeInFrame_locked hbegun hsync, nextFrame_running (s := spotsReturned s) hs]
      have h := beginFrame_plain (spotsReturned s)
      generalize beginFrame (spotsReturned s) = t at *
      exact ⟨h.boundary, ⟨h.state.trans hs, h.sync.trans hsync, h.frameTimer.trans (if_pos hsync),
        h.syncTimer.trans (if_pos hsync)⟩, fun hf => absurd (hsync.symm.trans hf) (by decide)⟩
    · rw [edgeInFrame_fallback hbegun hsync, nextFrame_running (s := afterEvents _ (spotsReturned (syncRegained s))) hs]
      have h := beginFrame_behind [regainedOf] (spotsReturned (syncRegained s))
      generalize beginFrame (afterEvents [regainedOf] (spotsReturned (syncRegained s))) = t at *
      exact ⟨h.boundary, ⟨h.state.trans hs, h.sync, h.frameTimer, h.syncTimer⟩,
        fun _ => h.offered _ (List.mem_singleton_self _)⟩
  · rw [takeEdge_inFrame hsource (.inr hs)]
    rcases hsync with hsync | hsync
    · rw [edgeInFrame_locked hbegun hsync, nextFrame_halting (s := spotsReturned s) hs]
      have hfinished := finishHalt_plain (spotsReturned s)
      generalize finishHalt (spotsReturned s) = t at *
      exact ⟨hfinished.enters, hfinished.haltCause, hfinished.votes, hfinished.hpc, fun hf => absurd (hsync.symm.trans hf) (by decide),
        hfinished.last h hc⟩
    · rw [edgeInFrame_fallback hbegun hsync, nextFrame_halting (s := afterEvents _ (spotsReturned (syncRegained s))) hs]
      have hfinished := finishHalt_behind [regainedOf] (spotsReturned (syncRegained s))
      generalize finishHalt (afterEvents [regainedOf] (spotsReturned (syncRegained s))) = t at *
      exact ⟨hfinished.enters, hfinished.haltCause, hfinished.votes, hfinished.hpc,
        fun _ => hfinished.offered _ (List.mem_singleton_self _), hfinished.last h hc⟩

/-- Settles O29: SYNC_LOST, then the boundary in RUNNING, the first one in STARTING, or the entry to STOPPED. -/
theorem syncTimerExpiry : Obligations.SyncTimerExpiry := by
  unfold Obligations.SyncTimerExpiry
  intro s hreset htimer
  have hexec : exec .syncTimerExpiry s = .next (syncExpiry s) := unlessReset_ran syncExpiry hreset
  rw [hexec]
  refine ⟨fun hs => ⟨_, rfl, ?_⟩, fun h hs hc => ⟨_, rfl, ?_⟩⟩
  · rcases hs with hs | hs
    · rw [syncExpiry_inFrame htimer (.inl hs), if_pos hs,
        nextFrame_running (s := afterEvents _ (spotsReturned (fallenBack s))) hs]
      have h := beginFrame_behind [lostOf] (spotsReturned (fallenBack s))
      generalize beginFrame (afterEvents [lostOf] (spotsReturned (fallenBack s))) = t at *
      exact ⟨h.boundary, h.state.trans hs, h.sync, h.frameTimer, h.syncTimer,
        h.offered _ (List.mem_singleton_self _), fun hstart => (by rw [hs] at hstart; cases hstart)⟩
    · rw [syncExpiry_starting htimer hs, if_neg (by rw [hs]; decide)]
      have htaken := firstBoundary_taken (afterEvents [lostOf] (fallenBack s))
      generalize firstBoundary (afterEvents [lostOf] (fallenBack s)) = t at *
      obtain ⟨l, htold⟩ := htaken.told
      exact ⟨Boundary.before htaken.boundary, htaken.state, htaken.sync, htaken.frameTimer, htaken.syncTimer,
        Offered.after ((told_afterEvents [lostOf] (fallenBack s)).offered (List.mem_singleton_self _)) htold,
        fun _ v hv m hm => htaken.last v hv m ((reaches_congr rfl m _).trans hm)⟩
  · rw [syncExpiry_inFrame htimer (.inr hs), nextFrame_halting (s := afterEvents _ (spotsReturned (fallenBack s))) hs]
    have hfinished := finishHalt_behind [lostOf] (spotsReturned (fallenBack s))
    generalize finishHalt (afterEvents [lostOf] (spotsReturned (fallenBack s))) = t at *
    exact ⟨hfinished.enters, hfinished.haltCause, hfinished.votes, hfinished.hpc,
      hfinished.offered _ (List.mem_singleton_self _), hfinished.last h hc⟩

end Sys2Proof.Proofs
end

section
/-! PROOF. The end of a warm-up (O30), and the run votes (O23, O24). -/

namespace Sys2Proof.Machine

open Sys2Proof.Safety

/-! ### A converter that has become free (R31, R32, R61, R73) -/

section
variable {s : State}

theorem tryStart_internal (hs : s.seq.state = .starting) (hready : s.conv.power = .ready)
    (hidle : s.conv.conversion = none) (hsource : s.seq.source = .internal) : tryStart s = firstBoundary s := by
  rw [tryStart, if_pos ⟨hs, hready, hidle⟩, hsource]

theorem tryStart_external (hs : s.seq.state = .starting) (hready : s.conv.power = .ready)
    (hidle : s.conv.conversion = none) (hsource : s.seq.source = .external) :
    tryStart s = s.withSeq { s.seq with syncTimer := some (64 * s.seq.syncTimeout) } := by
  rw [tryStart, if_pos ⟨hs, hready, hidle⟩, hsource]
  rfl

theorem tryStart_other (hs : s.seq.state ≠ .starting) : tryStart s = s := if_neg fun h => hs h.1

theorem converterFree_internal (hs : s.seq.state = .starting) (hready : s.conv.power = .ready)
    (hidle : s.conv.conversion = none) (hsource : s.seq.source = .internal) :
    converterFree s = firstBoundary s := by
  rw [converterFree, tryStart_internal hs hready hidle hsource,
    standalone_running fun h => by rw [(firstBoundary_taken s).state] at h; cases h]

theorem converterFree_external (hs : s.seq.state = .starting) (hready : s.conv.power = .ready)
    (hidle : s.conv.conversion = none) (hsource : s.seq.source = .external) :
    converterFree s = { s with seq := { s.seq with syncTimer := some (64 * s.seq.syncTimeout) } } := by
  rw [converterFree, tryStart_external hs hready hidle hsource, standalone_running fun h => ?_]
  · rfl
  · exact absurd (hs.symm.trans h) (by decide)

theorem converterFree_running (hs : s.seq.state ≠ .starting) (hs' : s.seq.state ≠ .stopped) : converterFree s = s := by
  rw [converterFree, tryStart_other hs, standalone_running hs']

section
variable (hs : s.seq.state = .stopped) (hready : s.conv.power = .ready) (hidle : s.conv.conversion = none)
include hs hready hidle

theorem converterFree_empty (hspots : s.seq.spots = []) :
    converterFree s = { s with conv := { s.conv with power := .off } } := by
  rw [converterFree, tryStart_other (by rw [hs]; decide), standalone_empty hs hready hidle hspots]

theorem converterFree_head {e : SpotEntry} (he : e ∈ s.seq.spots.head?) (hw : e.place = .waiting) :
    converterFree s = standaloneBegun e.input s := by
  rw [converterFree, tryStart_other (by rw [hs]; decide), standalone_head hs hready hidle he hw]

end

end

/-- The state s with REFIN at its new level and the converter READY (R60). -/
def warmedUp (refin : RefLevel) (s : State) : State :=
  { s with
    isel := { s.isel with refin := refin }
    conv := { s.conv with power := .ready, warmUp := none } }

theorem warmUpEnd_eq {refin : RefLevel} {s : State} (h : s.conv.power = .warming) :
    warmUpEnd refin s = converterFree (warmedUp refin s) := by
  simp only [warmUpEnd, h, if_true]
  rfl

end Sys2Proof.Machine

namespace Sys2Proof.Proofs

open Sys2Proof.Machine Sys2Proof.Safety

/-- Settles O30: what a converter that has become READY lets begin. -/
theorem warmUpEnds : Obligations.WarmUpEnds := by
  unfold Obligations.WarmUpEnds
  intro refin s hreset hwarming hidle
  have hexec : exec (.warmUpExpiry refin) s = .next (warmUpEnd refin s) := unlessReset_ran (warmUpEnd refin) hreset
  rw [hexec, warmUpEnd_eq hwarming]
  refine ⟨fun hs hsource hsync => ?_, fun hs hsource => ?_, fun hs hspots => ?_, fun hs e he hw => ?_⟩
  · rw [converterFree_internal (s := warmedUp refin s) hs rfl hidle hsource]
    have htaken := firstBoundary_taken (warmedUp refin s)
    generalize firstBoundary (warmedUp refin s) = t at *
    exact ⟨t, rfl, htaken.boundary, htaken.state, htaken.frameTimer.trans (if_neg hsync), htaken.last⟩
  · rw [converterFree_external (s := warmedUp refin s) hs rfl hidle hsource]
    rfl
  · rw [converterFree_empty (s := warmedUp refin s) hs rfl hidle hspots]
    rfl
  · rw [converterFree_head (s := warmedUp refin s) hs rfl hidle he hw]
    rfl

end Sys2Proof.Proofs
end

section
/-! PROOF. The run votes (O23, O24). -/

namespace Sys2Proof.Machine

open Sys2Proof.Safety

theorem SameSettings.symm {p q : PortCtl} (h : SameSettings p q) : SameSettings q p :=
  ⟨h.role.symm, h.session.symm, h.policy.symm, h.watermark.symm, h.mask.symm⟩

/-- Opening a command changes no settings. -/
theorem opened_settings (n : Port) (tag : Byte) (c : Instr) (s : State) (m : Port) :
    SameSettings (s.port m) ((opened n tag c s).port m) := by
  rw [opened_eq, withPort_port]
  by_cases hm : m = n
  · subst hm
    rw [if_pos rfl]
    exact (openedPort_settings tag c (s.port m)).symm
  · rw [if_neg hm]
    exact ⟨rfl, rfl, rfl, rfl, rfl⟩

/-- An opened command is seen in the port controllers alone. -/
theorem opened_hpc (n : Port) (tag : Byte) (c : Instr) (s : State) :
    { opened n tag c s with hpc := s.hpc } = s := by
  rw [opened_eq]
  rfl

/-! ### RUN (R29) -/

/-- SEQ in STARTING by the vote of port n (R29). -/
def startedBy (n : Port) (q : Seq) : Seq :=
  { q with
    votes := q.votes.add n, state := .starting, starter := some n, haltCause := none, sync := restSync q.source }

section
variable {n : Port} {s : State}

theorem runBlock_starting (h : s.seq.state = .starting) :
    runBlock n s = (Reply.ok [1], s.withSeq { s.seq with votes := s.seq.votes.add n }) := by
  simp only [runBlock, h]
  rfl

theorem runBlock_running (h : s.seq.state = .running) :
    runBlock n s = (Reply.ok [2], s.withSeq { s.seq with votes := s.seq.votes.add n }) := by
  simp only [runBlock, h]
  rfl

theorem runBlock_halting (h : s.seq.state = .halting) :
    runBlock n s = (Reply.ok [2],
      s.withSeq { s.seq with votes := s.seq.votes.add n, state := .running, haltCause := none }) := by
  simp only [runBlock, h]
  rfl

theorem runBlock_stopped (h : s.seq.state = .stopped) :
    runBlock n s = (Reply.ok [(tryStart (powerUp (s.withSeq (startedBy n s.seq)))).seq.state.value],
      tryStart (powerUp (s.withSeq (startedBy n s.seq)))) := by
  simp only [runBlock, h]
  rfl

theorem powerUp_ready (h : s.conv.power = .ready) : powerUp s = s := if_neg (by rw [h]; decide)

/-- RUN while the converter cannot begin at once (R29, R60). -/
theorem runBlock_waits (h : s.seq.state = .stopped)
    (hbusy : ¬ (s.conv.power = .ready ∧ s.conv.conversion = none)) :
    runBlock n s = (Reply.ok [1], { s with
      seq := startedBy n s.seq
      conv := if s.conv.power = .off then { s.conv with power := .warming, warmUp := some 40 } else s.conv }) := by
  have hpowered : powerUp (s.withSeq (startedBy n s.seq)) = { s with
      seq := startedBy n s.seq
      conv := if s.conv.power = .off then { s.conv with power := .warming, warmUp := some 40 } else s.conv } := by
    rw [powerUp_eq]
    rfl
  have hidle : tryStart (powerUp (s.withSeq (startedBy n s.seq))) = powerUp (s.withSeq (startedBy n s.seq)) := by
    refine if_neg fun ⟨_, hready, hidle⟩ => hbusy ?_
    rw [hpowered] at hready hidle
    by_cases hoff : s.conv.power = .off
    · simp only [hoff, if_true] at hready
      cases hready
    · simp only [hoff, if_false] at hready hidle
      exact ⟨hready, hidle⟩
  rw [runBlock_stopped h, hidle, hpowered]
  rfl

theorem runBlock_external (h : s.seq.state = .stopped) (hready : s.conv.power = .ready)
    (hidle : s.conv.conversion = none) (hsource : s.seq.source = .external) :
    runBlock n s = (Reply.ok [1],
      s.withSeq { startedBy n s.seq with syncTimer := some (64 * s.seq.syncTimeout) }) := by
  rw [runBlock_stopped h, powerUp_ready (s := s.withSeq (startedBy n s.seq)) hready,
    tryStart_external (s := s.withSeq (startedBy n s.seq)) rfl hready hidle hsource]
  rfl

theorem runBlock_internal (h : s.seq.state = .stopped) (hready : s.conv.power = .ready)
    (hidle : s.conv.conversion = none) (hsource : s.seq.source = .internal) :
    runBlock n s = (Reply.ok [2], firstBoundary (s.withSeq (startedBy n s.seq))) := by
  rw [runBlock_stopped h, powerUp_ready (s := s.withSeq (startedBy n s.seq)) hready,
    tryStart_internal (s := s.withSeq (startedBy n s.seq)) rfl hready hidle hsource,
    (firstBoundary_taken _).state]
  rfl

end

theorem restSync_eq (source : SyncSource) : restSync source = if source = .external then .waiting else .off := by
  cases source <;> rfl

/-! ### STOP (R30) -/

section
variable {n : Port} {s : State}

theorem stopBlock_notVoter (h : s.seq.votes.has n = false) : stopBlock n s = (Reply.refuse .notVoter, s) := if_pos h

theorem stopBlock_voter (h : s.seq.votes.has n = true) :
    stopBlock n s = (Reply.ok [(dropVote n .stop s).seq.state.value], dropVote n .stop s) :=
  if_neg (by rw [h]; decide)

theorem dropVote_others (kind : HaltKind) (h : s.seq.votes.drop n ≠ PortSet.empty) :
    dropVote n kind s = s.withSeq { s.seq with votes := s.seq.votes.drop n } :=
  if_neg fun hempty => h ((PortSet.isEmpty_iff _).mp hempty)

theorem dropVote_last (kind : HaltKind) (h : s.seq.votes.drop n = PortSet.empty) :
    dropVote n kind s = votesEmptied n kind (s.withSeq { s.seq with votes := s.seq.votes.drop n }) :=
  if_pos ((PortSet.isEmpty_iff _).mpr h)

end

end Sys2Proof.Machine

namespace Sys2Proof.Proofs

open Sys2Proof.Machine Sys2Proof.Safety

/-- Settles O23: RUN in each state of the sequencer, and in STOPPED by what the converter lets begin. -/
theorem runVotes : Obligations.RunVotes := by
  unfold Obligations.RunVotes
  intro n tag s hfree hcontrol
  have hcheck : portCheck n (.run n tag) s = none := portCheck_control hcontrol rfl
  rw [← PortSet.add_eq, ← restSync_eq]
  refine ⟨fun hs => ?_, fun hs => ?_, fun hs => ?_, fun hs hbusy => ?_, fun hs hready hidle => ?_⟩
  · exact hostCommand_runs (f := fun s => s.withSeq { s.seq with votes := s.seq.votes.add n }) hfree hcheck
      (fun q => runBlock_starting (s := withPort n q s) hs) (fun _ _ => rfl) rfl
  · exact hostCommand_runs (f := fun s => s.withSeq { s.seq with votes := s.seq.votes.add n }) hfree hcheck
      (fun q => runBlock_running (s := withPort n q s) hs) (fun _ _ => rfl) rfl
  · exact hostCommand_runs (f := fun s =>
        s.withSeq { s.seq with votes := s.seq.votes.add n, state := .running, haltCause := none }) hfree hcheck
      (fun q => runBlock_halting (s := withPort n q s) hs) (fun _ _ => rfl) rfl
  · exact hostCommand_runs (f := fun s => { s with
        seq := startedBy n s.seq
        conv := if s.conv.power = .off then { s.conv with power := .warming, warmUp := some 40 } else s.conv })
      hfree hcheck (fun q => runBlock_waits (s := withPort n q s) hs hbusy) (fun _ _ => rfl) rfl
  · by_cases hsource : s.seq.source = .external
    · rw [if_pos hsource]
      exact hostCommand_runs (f := fun s =>
          s.withSeq { startedBy n s.seq with syncTimer := some (64 * s.seq.syncTimeout) }) hfree hcheck
        (fun q => runBlock_external (s := withPort n q s) hs hready hidle hsource) (fun _ _ => rfl) rfl
    · rw [if_neg hsource]
      have hinternal : s.seq.source = .internal := by
        cases h : s.seq.source with
        | internal => rfl
        | external => exact absurd h hsource
      have hopened : opened n tag (.run n tag) s = withPort n (openedPort tag (.run n tag) (s.port n)) s :=
        opened_eq n tag _ s
      have hsettings := opened_settings n tag (.run n tag) s
      have hback := opened_hpc n tag (.run n tag) s
      have hstopped : (opened n tag (.run n tag) s).seq.state = .stopped := by rw [hopened]; exact hs
      have hblock := runBlock_internal (n := n) hstopped (by rw [hopened]; exact hready) (by rw [hopened]; exact hidle)
        (by rw [hopened]; exact hinternal)
      have htaken := firstBoundary_taken ((opened n tag (.run n tag) s).withSeq
        (startedBy n (opened n tag (.run n tag) s).seq))
      generalize firstBoundary ((opened n tag (.run n tag) s).withSeq
        (startedBy n (opened n tag (.run n tag) s).seq)) = u at *
      obtain ⟨l, htold⟩ := htaken.told
      have hexec := hostCommand_ran hfree hcheck hblock htold.hpc
      refine ⟨{ u with hpc := s.hpc }, hexec, htaken.state, ?_⟩
      have hports := Boundary.ports (p := s.hpc) htaken.boundary hsettings
      have hstart : { (opened n tag (.run n tag) s).withSeq (startedBy n (opened n tag (.run n tag) s).seq) with
          hpc := s.hpc } = { s with seq := startedBy n s.seq } := by
        rw [hopened]
        rfl
      rw [hstart] at hports
      exact hports

/-- Settles O24: the vote that is missing, that is not the last, and that is the last. -/
theorem stopWithdrawsTheVote : Obligations.StopWithdrawsTheVote := by
  unfold Obligations.StopWithdrawsTheVote
  intro n tag s hfree hcontrol
  have hcheck : portCheck n (.stop n tag) s = none := portCheck_control hcontrol rfl
  rw [← PortSet.drop_eq]
  refine ⟨fun hvote => ?_, fun hvote hothers => ?_, fun hvote hlast hs => ?_, fun hvote hlast hs => ?_⟩
  · exact hostCommand_refuses hfree hcheck fun q => stopBlock_notVoter (s := withPort n q s) hvote
  · refine hostCommand_runs (r := Reply.ok [s.seq.state.value])
      (f := fun s => s.withSeq { s.seq with votes := s.seq.votes.drop n }) hfree hcheck
      (fun q => ?_) (fun _ _ => rfl) rfl
    rw [stopBlock_voter (s := withPort n q s) hvote, dropVote_others (s := withPort n q s) .stop hothers]
    rfl
  · refine hostCommand_runs (r := Reply.ok [3])
      (f := fun s => s.withSeq { s.seq with
        votes := s.seq.votes.drop n, state := .halting, haltCause := some ⟨n, .stop⟩ }) hfree hcheck
      (fun q => ?_) (fun _ _ => rfl) rfl
    have hemptied : dropVote n .stop (withPort n q s) = (withPort n q s).withSeq { s.seq with
        votes := s.seq.votes.drop n, state := .halting, haltCause := some ⟨n, .stop⟩ } := by
      rw [dropVote_last (s := withPort n q s) .stop hlast, votesEmptied,
        show ((withPort n q s).withSeq { (withPort n q s).seq with
          votes := (withPort n q s).seq.votes.drop n }).seq.state = .running from hs]
      rfl
    rw [stopBlock_voter (s := withPort n q s) hvote, hemptied]
    rfl
  · have hopened : opened n tag (.stop n tag) s = withPort n (openedPort tag (.stop n tag) (s.port n)) s :=
      opened_eq n tag _ s
    have hsettings := opened_settings n tag (.stop n tag) s
    have hemptied : dropVote n .stop (opened n tag (.stop n tag) s) =
        enterStopped ((opened n tag (.stop n tag) s).withSeq { s.seq with votes := s.seq.votes.drop n }) := by
      rw [hopened, dropVote_last (s := withPort n _ s) .stop hlast, votesEmptied,
        show ((withPort n _ s).withSeq { (withPort n _ s).seq with
          votes := (withPort n _ s).seq.votes.drop n }).seq.state = .starting from hs]
      rfl
    have henters := enterStopped_enters
      ((opened n tag (.stop n tag) s).withSeq { s.seq with votes := s.seq.votes.drop n })
    have hstart : { (opened n tag (.stop n tag) s).withSeq { s.seq with votes := s.seq.votes.drop n } with
        hpc := s.hpc } = s.withSeq { s.seq with votes := s.seq.votes.drop n } := by
      rw [hopened]
      rfl
    have hblock := stopBlock_voter (n := n) (s := opened n tag (.stop n tag) s) (by rw [hopened]; exact hvote)
    rw [hemptied] at hblock
    generalize enterStopped ((opened n tag (.stop n tag) s).withSeq { s.seq with votes := s.seq.votes.drop n }) = u at *
    obtain ⟨⟨l, htold⟩, hvotes, hcause, henters⟩ := henters
    have hstate : u.seq.state = .stopped := henters.1
    rw [hstate] at hblock
    refine ⟨_, hostCommand_ran hfree hcheck hblock htold.hpc, ?_, hvotes, hcause, rfl⟩
    have hports := EntersStopped.ports (p := s.hpc)
      (p' := put s.hpc n (answeredPort (s.port n) tag .ok [0])) henters hsettings
    rw [hstart] at hports
    exact hports

end Sys2Proof.Proofs
end

section
/-! SUPPORT. Reports of due frames (R83 to R89): their order, what they tell, and what they do to each id. -/

namespace Sys2Proof.Machine

open Sys2Proof.Safety

/-! ### Ascending id order (R83) -/

theorem insertDue_perm (d : Due) (l : List Due) : (insertDue d l).Perm (d :: l) := by
  induction l with
  | nil => exact .refl _
  | cons x l ih =>
    rw [insertDue]
    split
    · exact .refl _
    · exact (ih.cons x).trans (.swap d x l)

theorem sortDues_perm (l : List Due) : (sortDues l).Perm l := by
  induction l with
  | nil => exact .refl _
  | cons d l ih => exact (insertDue_perm d (sortDues l)).trans (ih.cons d)

theorem insertDue_ascending (d : Due) {l : List Due} (h : Ascending l) : Ascending (insertDue d l) := by
  induction l with
  | nil => exact List.pairwise_singleton _ _
  | cons x l ih =>
    obtain ⟨hx, hl⟩ := List.pairwise_cons.mp h
    rw [insertDue]
    split
    next hlt =>
      refine List.pairwise_cons.mpr ⟨fun y hy => ?_, h⟩
      rcases List.mem_cons.mp hy with rfl | hy
      · exact hlt.le
      · exact hlt.le.trans (hx y hy)
    next hge =>
      refine List.pairwise_cons.mpr ⟨fun y hy => ?_, ih hl⟩
      rcases List.mem_cons.mp ((insertDue_perm d l).mem_iff.mp hy) with rfl | hy
      · exact not_lt.mp hge
      · exact hx y hy

theorem sortDues_ascending (l : List Due) : Ascending (sortDues l) := by
  induction l with
  | nil => exact .nil
  | cons d l ih => exact insertDue_ascending d ih

/-! ### Event queues to which events are offered and from which none is taken -/

/-- Between s and t the port controllers are kept and the event queues have been offered entries. -/
structure EventsGrow (s t : State) : Prop where
  hpc : t.hpc = s.hpc
  events : ∀ m : Port, ∃ l : List EventEntry,
    (t.queues m).events = l.foldl (fun q e => offerEntry e q) (s.queues m).events

section
variable {fn : FrameNo} {l : List Announced} {s t u : State}

theorem EventsGrow.of_queues (hhpc : t.hpc = s.hpc) (h : ∀ m, (t.queues m).events = (s.queues m).events) :
    EventsGrow s t := ⟨hhpc, fun m => ⟨[], h m⟩⟩

theorem EventsGrow.refl (s : State) : EventsGrow s s := .of_queues rfl fun _ => rfl

theorem EventsGrow.of_told (h : Told fn l s t) : EventsGrow s t :=
  ⟨h.hpc, fun m => ⟨(l.filter (reaches s m)).map (Announced.entry · fn), by
    rw [h.events m, eventsAfter, List.foldl_map]⟩⟩

theorem EventsGrow.trans (h : EventsGrow s t) (h' : EventsGrow t u) : EventsGrow s u :=
  ⟨h'.hpc.trans h.hpc, fun m => by
    obtain ⟨k, hk⟩ := h.events m
    obtain ⟨k', hk'⟩ := h'.events m
    exact ⟨k ++ k', by rw [hk', hk, List.foldl_append]⟩⟩

/-- An event offered behind others. -/
theorem Offered.behind {a : Announced} (h : EventsGrow s t) (ho : Offered fn a t u) : Offered fn a s u := by
  intro m hm
  obtain ⟨before, after, hq⟩ := ho m ((reaches_congr h.hpc m a).trans hm)
  obtain ⟨k, hk⟩ := h.events m
  exact ⟨k ++ before, after, by rw [hq, hk, List.foldl_append]⟩

end

theorem queuesAfterCopies_events (l : List (Port × SampleRecord)) (s : State) (m : Port) :
    (queuesAfterCopies l s m).events = (s.queues m).events := by
  have hfold (k : List SampleRecord) (q : PortQueues) :
      (k.foldl (fun q r => placeCopy (s.port m).policy r q) q).events = q.events := by
    induction k generalizing q with
    | nil => rfl
    | cons r k ih => exact (ih _).trans (placeCopy_events _ r q).1
  unfold queuesAfterCopies
  dsimp only
  split
  · exact hfold _ _
  · rfl

theorem afterCopies_grow (l : List (Port × SampleRecord)) (s : State) : EventsGrow s (afterCopies l s) :=
  .of_queues rfl fun m =>
    (congrArg PortQueues.events (tabulate_getElem (queuesAfterCopies l s) m)).trans (queuesAfterCopies_events l s m)

theorem watchReport_grow (i : SubId) (trip : Option LineNo) (r : Option Report) (s : State) :
    EventsGrow s (watchReport i trip r s) := by
  unfold watchReport
  split
  next t =>
    unfold entryReport
    dsimp only
    split
    · exact .refl s
    · rw [tripLine_eq]
      exact .of_told (Told.after (s := s) (t := updateLine t _ s) rfl rfl)
    · rw [raise_eq]
      exact .of_told (Told.after (s := s) (t := updateLine t _ s) rfl rfl)
  next t =>
    obtain ⟨l, h, -⟩ := (exitReport_exits t i s).told
    exact .of_told h
  · exact .refl s
  · exact .refl s

theorem handleRecord_grow (i : SubId) (r : SampleRecord) (s : State) : EventsGrow s (handleRecord i r s) := by
  have hdelivered (r : SampleRecord) (t : State) : EventsGrow t (deliverSub i r t) := by
    rw [deliverSub_eq]
    obtain ⟨hhpc, hevents⟩ := afterCopies_grow (((List.finRange 3).filter fun n => (t.record i).readers.has n).map
      fun n => (n, r)) { t with dlv := { t.dlv with latest := put t.dlv.latest i (some { r with lost := 0 }) } }
    exact ⟨hhpc, hevents⟩
  unfold handleRecord
  dsimp only
  split
  · exact hdelivered r s
  · split
    · exact hdelivered r s
    · split
      · exact hdelivered _ s
      next w _ _ v _ =>
        refine EventsGrow.trans ?_ (hdelivered _ _)
        refine EventsGrow.trans ?_ (watchReport_grow i _ _ _)
        rw [watchEvents_eq]
        exact .of_told (Told.after (s := s) (t := updateWatch i _ s) rfl rfl)

theorem reportDue_grow (e : DueEnd) (fn : FrameNo) (d : Due) (s : State) : EventsGrow s (reportDue e fn d s) := by
  obtain ⟨-, h⟩ | ⟨w, -, -, -, h⟩ | ⟨w, -, -, -, h⟩ := reportDue_cases e fn d s
  · rw [h]
    exact .refl s
  · rw [h]
    exact .of_queues rfl fun _ => rfl
  · rw [h, closeWindow]
    have hset : EventsGrow s (s.setWindow d.id (some (w.take e).restart)) := .of_queues rfl fun _ => rfl
    exact (hset.trans (handleRecord_grow d.id _ _)).trans (.of_queues rfl fun _ => rfl)

/-! ### What a report leaves -/

/-- The effect of a report on the rest of the part. -/
structure Reported (s t : State) : Prop extends OuterKept s t where
  grow : EventsGrow s t
  plan : t.subt.plan = s.subt.plan

theorem Reported.refl (s : State) : Reported s s := ⟨.refl s, .refl s, rfl⟩

theorem Reported.trans {s t u : State} (h : Reported s t) (h' : Reported t u) : Reported s u :=
  ⟨h.toOuterKept.trans h'.toOuterKept, h.grow.trans h'.grow, h'.plan.trans h.plan⟩

theorem reportDue_reported (e : DueEnd) (fn : FrameNo) (d : Due) (s : State) : Reported s (reportDue e fn d s) := by
  refine ⟨?_, reportDue_grow e fn d s, ?_⟩
  · obtain ⟨-, h⟩ | ⟨w, -, -, -, h⟩ | ⟨w, -, -, -, h⟩ := reportDue_cases e fn d s
    · rw [h]
      exact .refl s
    · rw [h]
      exact ⟨rfl, rfl, rfl, rfl, rfl, rfl, rfl, fun _ => ⟨rfl, rfl⟩, rfl, rfl, rfl⟩
    · rw [h]
      exact (closeWindow_closed d.id fn _ s).toOuterKept
  · obtain ⟨-, h⟩ | ⟨w, -, -, -, h⟩ | ⟨w, -, -, -, h⟩ := reportDue_cases e fn d s
    · rw [h]
    · rw [h]
      rfl
    · rw [h, (closeWindow_closed d.id fn _ s).subt]
      rfl

theorem reportAll_reported (e : DueEnd) (fn : FrameNo) (l : List Due) (s : State) :
    Reported s (reportAll e fn l s) := by
  unfold reportAll
  induction l generalizing s with
  | nil => exact .refl s
  | cons d l ih => exact (reportDue_reported e fn d s).trans (ih _)

/-! ### The slices of the ids -/

theorem reportDue_other (e : DueEnd) (fn : FrameNo) {d : Due} {i : SubId} (s : State)
    (h : d.id = i → (s.window i).map Window.generation ≠ some d.generation) :
    sliceOf (reportDue e fn d s) i = sliceOf s i := by
  by_cases hi : d.id = i
  · subst hi
    rw [reportDue_foreign (h rfl)]
  · have hne : i ≠ d.id := fun h => hi h.symm
    obtain ⟨-, h⟩ | ⟨w, -, -, -, h⟩ | ⟨w, -, -, -, h⟩ := reportDue_cases e fn d s
    · rw [h]
    · rw [h]
      simp only [sliceOf, State.setWindow_window, if_neg hne]
      rfl
    · rw [h]
      have hclosed := closeWindow_closed d.id fn (w.take e) s
      generalize closeWindow d.id fn (w.take e) s = t at *
      obtain ⟨hwindow, hwatch, hlatest⟩ := hclosed.others i hne
      have hrecord : t.record i = s.record i := by
        rw [State.record, hclosed.subt]
        exact put_getElem_other _ _ hne
      rw [sliceOf, sliceOf, hwindow, hwatch, hlatest, hrecord]

/-- An id that no due frame of the report belongs to. -/
theorem reportAll_other (e : DueEnd) (fn : FrameNo) {l : List Due} {i : SubId} (s : State)
    (h : ∀ d ∈ l, d.id = i → (s.window i).map Window.generation ≠ some d.generation) :
    sliceOf (reportAll e fn l s) i = sliceOf s i := by
  unfold reportAll
  induction l generalizing s with
  | nil => rfl
  | cons d l ih =>
    have hd := reportDue_other e fn s (h d List.mem_cons_self)
    have hwindow : (reportDue e fn d s).window i = s.window i := congrArg Slice.window hd
    exact (ih _ fun d' hd' => by rw [hwindow]; exact h d' (List.mem_cons_of_mem _ hd')).trans hd

/-- An id that is due once: its slice is that of its own due frame. -/
theorem reportAll_once (e : DueEnd) (fn : FrameNo) {l : List Due} {d : Due} (s : State) (hd : d ∈ l)
    (hnodup : (l.map Due.id).Nodup) : ∃ u : State, sliceOf u d.id = sliceOf s d.id ∧ Reported s u ∧
      sliceOf (reportAll e fn l s) d.id = sliceOf (reportDue e fn d u) d.id := by
  obtain ⟨before, after, rfl⟩ := List.append_of_mem hd
  rw [List.map_append, List.map_cons, List.nodup_append, List.nodup_cons] at hnodup
  obtain ⟨-, ⟨hafter, -⟩, hbefore⟩ := hnodup
  refine ⟨reportAll e fn before s, ?_, reportAll_reported e fn before s, ?_⟩
  · exact reportAll_other e fn s fun d' hd' hid =>
      absurd hid (hbefore d'.id (List.mem_map_of_mem hd') d.id List.mem_cons_self)
  · have hsplit : reportAll e fn (before ++ d :: after) s =
        reportAll e fn after (reportDue e fn d (reportAll e fn before s)) := by
      simp only [reportAll, List.foldl_append, List.foldl_cons]
    rw [hsplit]
    exact reportAll_other e fn _ fun d' hd' hid =>
      absurd (hid ▸ List.mem_map_of_mem hd') hafter

/-- A due frame that is not the last of its window (R84 to R86). -/
theorem reportAll_moves {e : DueEnd} {fn : FrameNo} {l : List Due} {d : Due} {s : State} {w : Window} (hd : d ∈ l)
    (hnodup : (l.map Due.id).Nodup) (hw : s.window d.id = some w) (hg : w.generation = d.generation)
    (hlast : w.position + 1 ≠ w.average.count) : sliceOf (reportAll e fn l s) d.id =
      { sliceOf s d.id with window := some { w.take e with position := w.position + 1 } } := by
  obtain ⟨u, hu, -, hslice⟩ := reportAll_once e fn s hd hnodup
  have hwu : u.window d.id = some w := (congrArg Slice.window hu).trans hw
  rw [hslice, reportDue_moves hwu hg hlast, ← hu]
  simp only [sliceOf, State.setWindow_window, if_true]
  rfl

/-- The last due frame of a window: its record goes out (R88, R89). -/
theorem reportAll_closes {e : DueEnd} {fn : FrameNo} {l : List Due} {d : Due} {s : State} {w : Window} (hd : d ∈ l)
    (hnodup : (l.map Due.id).Nodup) (hw : s.window d.id = some w) (hg : w.generation = d.generation)
    (hlast : w.position + 1 = w.average.count) :
    (reportAll e fn l s).record d.id = { s.record d.id with sequence := (s.record d.id).sequence + 1 } ∧
    (reportAll e fn l s).window d.id = some w.restart ∧
    ∃ x : Option WatchState, (reportAll e fn l s).dlv.latest[d.id] =
      some { closedRecord d.id fn (w.take e) s with watch := x, lost := 0 } := by
  obtain ⟨u, hu, hreported, hslice⟩ := reportAll_once e fn s hd hnodup
  have hwu : u.window d.id = some w := (congrArg Slice.window hu).trans hw
  have hru : u.record d.id = s.record d.id := congrArg Slice.record hu
  have hpu (p : ProfileNo) : u.profile p = s.profile p := congrArg (·[p]) hreported.profiles
  have hclosed := closeWindow_closed d.id fn (w.take e) u
  rw [reportDue_closes hwu hg hlast] at hslice
  generalize closeWindow d.id fn (w.take e) u = t at *
  have hwindow := hclosed.window
  obtain ⟨x, hlatest⟩ := hclosed.latest
  have hrecord : closedRecord d.id fn (w.take e) u = closedRecord d.id fn (w.take e) s := by
    rw [closedRecord, closedRecord, hru, hpu]
  have hsubt : t.record d.id = { s.record d.id with sequence := (s.record d.id).sequence + 1 } := by
    rw [State.record, hclosed.subt, hru]
    exact put_getElem_same _ _ _
  rw [restart_take] at hwindow
  rw [hrecord] at hlatest
  exact ⟨(congrArg Slice.record hslice).trans hsubt, (congrArg Slice.window hslice).trans hwindow, x,
    (congrArg Slice.latest hslice).trans hlatest⟩

end Sys2Proof.Machine
end

section
/-! PROOF. An early SYNC edge (O28). -/

namespace Sys2Proof.Machine

open Sys2Proof.Safety

/-! ### The state right after the cut (R42, R43, R46, R71, R83) -/

/-- The planned entries of the frame that have not begun (R43). -/
def missedIn (s : State) : List ListEntry :=
  s.seq.list.filter fun x => decide (s.seq.slot < x.slot) && decide (x.origin = .planned)

theorem missedEntries_eq (s : State) : missedEntries s = missedIn s := by
  unfold missedEntries unbegunEntries missedIn
  rw [List.filter_filter]
  refine List.filter_congr fun x _ => ?_
  rw [Bool.and_comm]
  rfl

/-- The due members that an early edge leaves without their frame, in the order of the report (R83). -/
def missedDues (s : State) : List Due := sortDues ((missedIn s).flatMap ListEntry.due)

/-- SEQ at the report of a frame that an early edge cuts (R43, R46). -/
def edgeSeq (s : State) : Seq :=
  if s.seq.sync = .locked then { s.seq with cut := true } else { s.seq with
    cut := true, sync := .locked, frameTimer := none, syncTimer := some (64 * s.seq.syncTimeout) }

theorem edgeSeq_kept (s : State) : (edgeSeq s).fn = s.seq.fn ∧ (edgeSeq s).state = s.seq.state ∧
    (edgeSeq s).votes = s.seq.votes ∧ (edgeSeq s).haltCause = s.seq.haltCause ∧ (edgeSeq s).sync = .locked ∧
    (edgeSeq s).syncTimeout = s.seq.syncTimeout := by
  unfold edgeSeq
  split
  next h => exact ⟨rfl, rfl, rfl, rfl, h, rfl⟩
  next => exact ⟨rfl, rfl, rfl, rfl, rfl, rfl⟩

/-- The event of an early edge (R43, R46). -/
def earlyOf (s : State) : Announced :=
  ⟨everyPort, if s.seq.sync = .locked then .syncEarly else .syncRegained, 0,
    BitVec.ofNat 16 ((missedIn s).length % 256)⟩

/-- The state s after the frame-end report of a frame that an early edge cuts (R42, R86). -/
def reportedCut (s : State) : State :=
  reportAll .missed s.seq.fn (missedDues s) { s with seq := edgeSeq s }

/-- The same with the spot entries of entries not begun returned (R71). -/
def returnedCut (s : State) : State :=
  { reportedCut s with seq := { edgeSeq s with spots := s.seq.spots.map fun e =>
      if e.place = .inFlight then e else { e with place := .waiting } } }

/-- The state right after the cut. -/
def cutAt (s : State) : State := afterEvents [earlyOf s] (returnedCut s)

theorem cutFrame_eq (code : EventCode) {s u : State} (hseq : { s.seq with cut := true } = edgeSeq u)
    (hmissed : missedIn s = missedIn u) (hrest : { s with seq := edgeSeq u } = { u with seq := edgeSeq u })
    (hcode : code = (earlyOf u).code) (hspots : s.seq.spots = u.seq.spots) (hfn : s.seq.fn = u.seq.fn) :
    cutFrame code s = cutAt u := by
  have hreport : reportMissed (s.withSeq { s.seq with cut := true }) = reportedCut u := by
    have hsame : missedEntries (s.withSeq { s.seq with cut := true }) = missedIn u :=
      (missedEntries_eq _).trans hmissed
    unfold reportMissed reportedCut missedDues
    rw [hsame, ← hrest, ← hseq, ← hfn]
    rfl
  have hreported : (reportedCut u).seq = edgeSeq u :=
    (reportAll_reported .missed u.seq.fn (missedDues u) { u with seq := edgeSeq u }).seq
  have hreturned : returnSpots (reportedCut u) = returnedCut u := by
    have hback : (edgeSeq u).spots = u.seq.spots := by rw [← hseq, ← hspots]
    rw [spotsReturned_eq, returnedCut, spotsReturned, hreported, hback]
  have hevent : (⟨PortSet.all, code, 0, causeDetail 0 (byteOf (missedEntries s).length)⟩ : Announced) = earlyOf u := by
    rw [causeDetail_number, missedEntries_eq, hmissed, hcode]
    rfl
  unfold cutFrame
  dsimp only
  rw [raise_eq, hevent, hreport, hreturned]
  rfl

/-- The chain of changes up to the cut. -/
theorem cutAt_laws {s : State} (h : LineLaws s) : LineLaws (cutAt s) := by
  have hchanges : Changes { s with seq := edgeSeq s } (reportedCut s) := reportAll_changes _ _ _ _
  obtain ⟨halarm, hwindow, htrip⟩ := h
  have hreported : LineLaws (reportedCut s) :=
    ⟨Changes.keep alarmLaw_kept hchanges halarm, Changes.keep windowLaw_kept hchanges hwindow,
      Changes.keep tripLaw_kept hchanges htrip⟩
  exact hreported

/-! ### The edge -/

section
variable {s : State} (hearly : ∃ x ∈ s.seq.list, s.seq.slot < x.slot)
include hearly

theorem edge_early : edgeIsEarly s = true := by
  obtain ⟨x, hx, hslot⟩ := hearly
  have hmem : x ∈ unbegunEntries s := List.mem_filter.mpr ⟨hx, decide_eq_true hslot⟩
  rw [edgeIsEarly]
  cases h : unbegunEntries s with
  | nil =>
    rw [h] at hmem
    cases hmem
  | cons _ _ => rfl

theorem edgeInFrame_early (hsync : s.seq.sync = .locked ∨ s.seq.sync = .fallback) :
    edgeInFrame s = nextFrame (cutAt s) := by
  rcases hsync with hsync | hsync
  · have hedge : edgeSeq s = { s.seq with cut := true } := if_pos hsync
    have hcut : cutFrame .syncEarly s = cutAt s := cutFrame_eq .syncEarly hedge.symm rfl rfl
      (if_pos hsync).symm rfl rfl
    simp only [edgeInFrame, hsync, edgeEnd, edge_early hearly, if_true, hcut]
  · have hnot : ¬ s.seq.sync = .locked := by rw [hsync]; decide
    have hedge : edgeSeq s = { (syncRegained s).seq with cut := true } := if_neg hnot
    have hcut : cutFrame .syncRegained (syncRegained s) = cutAt s :=
      cutFrame_eq .syncRegained hedge.symm rfl rfl (if_neg hnot).symm rfl rfl
    have hregain : edgeInFrame s = nextFrame (regainEnd (syncRegained s)) := by
      simp only [edgeInFrame, hsync]
      rfl
    rw [hregain, regainEnd, edge_early (s := syncRegained s) hearly, if_pos rfl, hcut]

end

/-! ### What the cut leaves, and the frame that follows -/

theorem reportedCut_reported (s : State) : Reported { s with seq := edgeSeq s } (reportedCut s) :=
  reportAll_reported _ _ _ _

/-- The event of an early edge is offered behind the records and events of the report. -/
theorem cutAt_offered {fn : FrameNo} {l : List Announced} {s t : State} (h : Told fn l (cutAt s) t) :
    Offered s.seq.fn (earlyOf s) s t := by
  obtain ⟨hhpc, hevents⟩ := (reportedCut_reported s).grow
  have hgrow : EventsGrow s (returnedCut s) := ⟨hhpc, hevents⟩
  have hfn : (returnedCut s).seq.fn = s.seq.fn := (edgeSeq_kept s).1
  have htold := told_afterEvents [earlyOf s] (returnedCut s)
  rw [hfn] at htold
  exact Offered.behind hgrow (Offered.after (htold.offered (List.mem_singleton_self _)) h)

theorem cutAt_hpc (s : State) : (cutAt s).hpc = s.hpc := (reportedCut_reported s).hpc

theorem cutAt_plan (s : State) : (cutAt s).subt.plan = s.subt.plan := (reportedCut_reported s).plan

/-- An ACTIVE record without a staged change is not touched by a boundary (R20). -/
theorem Boundary.active {s t : State} {i : SubId} (h : Boundary s t) (hst : (s.record i).state = .active)
    (hnone : (s.record i).staged = none) : t.record i = s.record i ∧ t.window i = s.window i ∧
      t.dlv.latest[i] = s.dlv.latest[i] := by
  obtain ⟨-, -, -, -, -, -, -, -, -, -, -, -, -, -, -, hrecords, -⟩ := h
  obtain ⟨hrecord, hwindow, -, hlatest⟩ := hrecords i
  refine ⟨hrecord.trans ?_, hwindow.trans ?_, hlatest.trans (if_neg fun h => ?_)⟩
  · simp [promoted, hst, hnone]
  · simp [promotedWindow, hst, hnone]
  · cases hst.symm.trans h

/-- Nor by the entry to STOPPED (R23). -/
theorem EntersStopped.active {s t : State} {i : SubId} (h : EntersStopped s t)
    (hst : (s.record i).state = .active) : t.record i = s.record i ∧ t.window i = s.window i ∧
      t.dlv.latest[i] = s.dlv.latest[i] := by
  obtain ⟨-, -, -, -, -, -, -, -, -, -, hrecords, -⟩ := h
  obtain ⟨hrecord, hwindow, -, hlatest⟩ := hrecords i
  have hne : ¬ (s.record i).state = .closing := fun h => by cases hst.symm.trans h
  exact ⟨hrecord.trans (if_neg hne), hwindow.trans (if_neg hne), hlatest.trans (if_neg hne)⟩

/-- What the step of an early edge leaves of the records that are ACTIVE and have no staged change. -/
def ActiveKept (s t : State) : Prop := ∀ i : SubId, (s.record i).state = .active → (s.record i).staged = none →
  t.record i = s.record i ∧ t.window i = s.window i ∧ t.dlv.latest[i] = s.dlv.latest[i]

/-- The record of a window whose last due frame was missed (R86, R88). -/
theorem closedRecord_missed (i : SubId) (fn : FrameNo) (w : Window) (s : State) :
    (closedRecord i fn (w.take .missed) s).frame = some fn ∧
    (closedRecord i fn (w.take .missed) s).flags.missed = true ∧
    (closedRecord i fn (w.take .missed) s).sequence = (s.record i).sequence ∧
    (closedRecord i fn (w.take .missed) s).folded = w.folded ∧
    (closedRecord i fn (w.take .missed) s).generation = w.generation := by
  refine ⟨rfl, ?_, rfl, rfl, rfl⟩
  have h : (closedRecord i fn (w.take .missed) s).flags.missed = decide (0 < w.misses + 1) := rfl
  rw [h]
  exact decide_eq_true (Nat.succ_pos _)

/-- The windows after the report of a cut frame. -/
theorem cutAt_windows {s t : State} (h : ActiveKept (cutAt s) t)
    (hnodup : (((missedIn s).flatMap ListEntry.due).map Due.id).Nodup) :
    (∀ d ∈ (missedIn s).flatMap ListEntry.due, ∀ w, s.window d.id = some w → w.generation = d.generation →
      (s.record d.id).state = .active → (s.record d.id).staged = none →
      (w.position + 1 < w.average.count →
        t.window d.id = some { w with misses := w.misses + 1, position := w.position + 1 } ∧
        t.record d.id = s.record d.id ∧ t.dlv.latest[d.id] = s.dlv.latest[d.id]) ∧
      (w.position + 1 = w.average.count →
        t.window d.id = some w.restart ∧
        t.record d.id = { s.record d.id with sequence := (s.record d.id).sequence + 1 } ∧
        ∃ r, t.dlv.latest[d.id] = some r ∧ r.frame = some s.seq.fn ∧ r.flags.missed = true ∧
          r.sequence = (s.record d.id).sequence ∧ r.folded = w.folded ∧ r.generation = w.generation)) ∧
    ∀ i : SubId, i ∉ ((missedIn s).flatMap ListEntry.due).map Due.id → (s.record i).state = .active →
      (s.record i).staged = none →
      t.record i = s.record i ∧ t.window i = s.window i ∧ t.dlv.latest[i] = s.dlv.latest[i] := by
  have hperm := sortDues_perm ((missedIn s).flatMap ListEntry.due)
  have hsorted : ((missedDues s).map Due.id).Nodup := (hperm.map Due.id).nodup_iff.mpr hnodup
  refine ⟨fun d hd w hw hg hst hnone => ?_, fun i hi hst hnone => ?_⟩
  · have hmem : d ∈ missedDues s := hperm.mem_iff.mpr hd
    refine ⟨fun hlt => ?_, fun heq => ?_⟩
    · have hslice : sliceOf (cutAt s) d.id = _ :=
        reportAll_moves (e := .missed) (fn := s.seq.fn) (s := { s with seq := edgeSeq s }) hmem hsorted hw hg hlt.ne
      have hrecord : (cutAt s).record d.id = s.record d.id := congrArg Slice.record hslice
      have hwindow : (cutAt s).window d.id = _ := congrArg Slice.window hslice
      have hlatest : (cutAt s).dlv.latest[d.id] = s.dlv.latest[d.id] := congrArg Slice.latest hslice
      obtain ⟨hr, hwin, hl⟩ := h d.id (by rw [hrecord]; exact hst) (by rw [hrecord]; exact hnone)
      exact ⟨hwin.trans hwindow, hr.trans hrecord, hl.trans hlatest⟩
    · obtain ⟨hrecord, hwindow, x, hlatest⟩ :=
        reportAll_closes (e := .missed) (fn := s.seq.fn) (s := { s with seq := edgeSeq s }) hmem hsorted hw hg heq
      have hrecord : (cutAt s).record d.id = _ := hrecord
      have hwindow : (cutAt s).window d.id = _ := hwindow
      obtain ⟨hr, hwin, hl⟩ := h d.id (by rw [hrecord]; exact hst) (by rw [hrecord]; exact hnone)
      obtain ⟨hframe, hmissed, hsequence, hfolded, hgeneration⟩ :=
        closedRecord_missed d.id s.seq.fn w { s with seq := edgeSeq s }
      exact ⟨hwin.trans hwindow, hr.trans hrecord, _, hl.trans hlatest, hframe, hmissed, hsequence, hfolded,
        hgeneration⟩
  · have hother : ∀ d ∈ missedDues s, d.id = i →
        (s.window i).map Window.generation ≠ some d.generation := fun d hd hid =>
      absurd (hid ▸ List.mem_map_of_mem (hperm.mem_iff.mp hd)) hi
    have hslice : sliceOf (cutAt s) i = sliceOf s i :=
      reportAll_other .missed s.seq.fn { s with seq := edgeSeq s } hother
    have hrecord : (cutAt s).record i = s.record i := congrArg Slice.record hslice
    obtain ⟨hr, hwin, hl⟩ := h i (by rw [hrecord]; exact hst) (by rw [hrecord]; exact hnone)
    exact ⟨hr.trans hrecord, hwin.trans (congrArg Slice.window hslice), hl.trans (congrArg Slice.latest hslice)⟩

end Sys2Proof.Machine

namespace Sys2Proof.Proofs

open Sys2Proof.Machine Sys2Proof.Safety

/-- Settles O28: the report of the cut frame, its event, and then the next frame or the entry to STOPPED. -/
theorem earlyEdgeCutsTheFrame : Obligations.EarlyEdgeCutsTheFrame := by
  unfold Obligations.EarlyEdgeCutsTheFrame
  intro s hreset hsource hs hsync hearly
  have hexec : exec .syncEdge s = .next (nextFrame (cutAt s)) := by
    rw [← edgeInFrame_early hearly hsync, ← takeEdge_inFrame hsource hs]
    exact unlessReset_ran takeEdge hreset
  rw [hexec]
  refine ⟨missedDues s, sortDues_perm _, sortDues_ascending _, fun h => cutAt_laws h, nextFrame (cutAt s), rfl, ?_⟩
  obtain ⟨hfn, hstate, hvotes, hcause, hlocked, htimeout⟩ := edgeSeq_kept s
  rcases hs with hs | hs
  · rw [nextFrame_running (s := cutAt s) (hstate.trans hs)]
    have hboundary := beginFrame_boundary (cutAt s)
    have hplan := beginFrame_plan (cutAt s)
    obtain ⟨hrun, hsync', hframe, htimer⟩ := beginFrame_timers (cutAt s)
    generalize beginFrame (cutAt s) = t at *
    obtain ⟨l, htold, hboundary⟩ := hboundary
    have hvotes' : t.seq.votes = (cutAt s).seq.votes := by
      obtain ⟨-, -, -, hv, -⟩ := hboundary
      exact hv
    have htimeout' : (64 * (cutAt s).seq.syncTimeout) = 64 * s.seq.syncTimeout := congrArg (64 * ·) htimeout
    refine ⟨cutAt_offered htold, htold.hpc.trans (cutAt_hpc s), hvotes'.trans hvotes, hplan.trans (cutAt_plan s),
      fun _ => ⟨hboundary, hrun.trans (hstate.trans hs), hsync'.trans hlocked, hframe.trans (if_pos hlocked),
        (htimer.trans (if_pos hlocked)).trans (congrArg some htimeout')⟩,
      fun h => absurd (hs.symm.trans h) (by decide),
      cutAt_windows fun i hst hnone => Boundary.active hboundary hst hnone⟩
  · rw [nextFrame_halting (s := cutAt s) (hstate.trans hs)]
    have hfinished := finishHalt_finished (cutAt s)
    generalize finishHalt (cutAt s) = t at *
    obtain ⟨henters, hnone, hvotes', hhpc, ⟨l, htold⟩, hlast⟩ := hfinished
    have hplan : t.subt.plan = (cutAt s).subt.plan := by
      obtain ⟨-, -, -, -, -, -, ⟨-, -, -, -, -, -, hplan, -⟩, -⟩ := henters
      exact hplan
    have hfn' : (cutAt s).seq.fn = s.seq.fn := hfn
    rw [hfn'] at hlast
    refine ⟨cutAt_offered htold, hhpc.trans (cutAt_hpc s), hvotes'.trans hvotes, hplan.trans (cutAt_plan s),
      fun h => absurd (hs.symm.trans h) (by decide),
      fun _ => ⟨henters, hnone, fun h hc m hm => hlast h (hcause.trans hc) m
        ((reaches_congr (cutAt_hpc s) m _).trans hm)⟩,
      cutAt_windows fun i hst _ => EntersStopped.active henters hst⟩

end Sys2Proof.Proofs
end

section
/-! PROOF. The completion of a conversion (O32). -/

namespace Sys2Proof.Machine

open Sys2Proof.Safety

/-! ### A report moves no use count (R53) -/

theorem watchReport_useCount (i : SubId) (trip : Option LineNo) (r : Option Report) (s : State) (k : InputNo) :
    ((watchReport i trip r s).input k).useCount = (s.input k).useCount := by
  unfold watchReport
  split
  next t =>
    unfold entryReport
    dsimp only
    split
    · rfl
    · rw [tripLine_eq]
      exact updateLine_useCount t _ s k
    · rw [raise_eq]
      exact updateLine_useCount t _ s k
  next t => exact exitReport_useCount t i s k
  · rfl
  · rfl

theorem handleRecord_useCount (i : SubId) (r : SampleRecord) (s : State) (k : InputNo) :
    ((handleRecord i r s).input k).useCount = (s.input k).useCount := by
  have hdelivered (r : SampleRecord) (t : State) : (deliverSub i r t).input k = t.input k := by
    rw [deliverSub_eq]
    rfl
  unfold handleRecord
  dsimp only
  split
  · rw [hdelivered]
  · split
    · rw [hdelivered]
    · split
      · rw [hdelivered]
      · rw [hdelivered, watchReport_useCount, watchEvents_eq]
        rfl

theorem reportDue_useCount (e : DueEnd) (fn : FrameNo) (d : Due) (s : State) (k : InputNo) :
    ((reportDue e fn d s).input k).useCount = (s.input k).useCount := by
  obtain ⟨-, h⟩ | ⟨w, -, -, -, h⟩ | ⟨w, -, -, -, h⟩ := reportDue_cases e fn d s
  · rw [h]
  · rw [h]
    rfl
  · rw [h]
    exact handleRecord_useCount d.id _ (s.setWindow d.id _) k

theorem reportAll_useCount (e : DueEnd) (fn : FrameNo) (l : List Due) (s : State) (k : InputNo) :
    ((reportAll e fn l s).input k).useCount = (s.input k).useCount := by
  unfold reportAll
  induction l generalizing s with
  | nil => rfl
  | cons d l ih => exact (ih _).trans (reportDue_useCount e fn d s k)

/-! ### The state at the end of a conversion (R41, R64, R72) -/

/-- The state s with the converter READY and the routing released, REFIN at its level, and the free value used when
the code needs it (R64, log 9). -/
def released (vin : Level) (vref : RefLevel) (s : State) : State :=
  { s with
    isel := { s.isel with routed := none, refin := vref }
    conv := { s.conv with power := .ready, conversion := none }
    freeCount := if vref = 0 ∧ vin = 0 then s.freeCount + 1 else s.freeCount }

theorem released_eq (vin : Level) (vref : RefLevel) (s : State) :
    releaseConverter (countFree vin vref (setRefin vref s)) = released vin vref s := by
  unfold countFree released
  by_cases h : vref = 0 ∧ vin = 0
  · rw [if_pos h, if_pos (by simp [needsFree, h])]
    rfl
  · rw [if_neg h, if_neg (by simpa [needsFree] using h)]
    rfl

/-- The code of the conversion (R63). -/
def codeOf (vin : Level) (vref : RefLevel) (s : State) : BitVec 12 :=
  convertCode (Config.codeAtZeroReference s.freeCount) vin vref

/-- The entries that a conversion serves (R72). -/
def servedSpots (s : State) : List SpotEntry := s.seq.spots.filter fun e => decide (e.place = .inFlight)

/-- The spot record of an entry (Table 4-2). -/
def servedRecord (code : BitVec 12) (c : Conversion) (s : State) (e : SpotEntry) : SampleRecord :=
  { kind := .spot, ident := e.tag, sequence := 0, frame := c.frame
    value := e.profile.map fun p => (scale code.toNat (s.profile p)).value
    raw := some code, watch := none, folded := 1, generation := 0, lost := 0
    flags := {
      clipped := e.profile.any fun p => (scale code.toNat (s.profile p)).clipped
      railLow := decide (code = 0), railHigh := decide (code = 4095)
      missed := false, noData := false, refFault := c.refFault } }

theorem spotRecord_eq (e : SpotEntry) (code : BitVec 12) (c : Conversion) (s : State) :
    spotRecord e code c s = servedRecord code c s e := by
  unfold spotRecord servedRecord
  cases e.profile <;> rfl

/-- The conversion passed on to ASU (R41). -/
def passedOn (vin : Level) (vref : RefLevel) (c : Conversion) (s : State) : State :=
  match c.frame with
  | none => released vin vref s
  | some fn => reportAll (if c.refFault then .faulted else .folded (codeOf vin vref s)) fn (sortDues c.due)
      (released vin vref s)

theorem passedOn_eq (vin : Level) (vref : RefLevel) (c : Conversion) (s : State) :
    passToAsu c (codeOf vin vref s) (released vin vref s) = passedOn vin vref c s := by
  unfold passToAsu passedOn dueEndOf
  cases c.frame <;> rfl

theorem passedOn_reported (vin : Level) (vref : RefLevel) (c : Conversion) (s : State) :
    Reported (released vin vref s) (passedOn vin vref c s) := by
  unfold passedOn
  cases c.frame with
  | none => exact .refl _
  | some fn => exact reportAll_reported _ fn _ _

theorem passedOn_useCount (vin : Level) (vref : RefLevel) (c : Conversion) (s : State) (k : InputNo) :
    ((passedOn vin vref c s).input k).useCount = (s.input k).useCount := by
  unfold passedOn
  cases c.frame with
  | none => rfl
  | some fn => exact reportAll_useCount _ fn _ (released vin vref s) k

theorem passedOn_changes (vin : Level) (vref : RefLevel) (c : Conversion) (s : State) :
    Changes (released vin vref s) (passedOn vin vref c s) := by
  unfold passedOn
  cases c.frame with
  | none => exact .refl
  | some fn => exact reportAll_changes _ _ _ _

/-- The state when the conversion has completed, before the converter takes up anything new. -/
def completedAt (vin : Level) (vref : RefLevel) (c : Conversion) (s : State) : State :=
  afterCopies ((servedSpots s).map fun e => (e.port, servedRecord (codeOf vin vref s) c s e))
    { passedOn vin vref c s with
      seq := { s.seq with spots := s.seq.spots.filter fun e => decide (e.place ≠ .inFlight) }
      isel := { (passedOn vin vref c s).isel with inputs := tabulate fun k => { (passedOn vin vref c s).input k with
        useCount := (s.input k).useCount - ((servedSpots s).filter fun e => decide (e.input = k)).length } } }

theorem completedAt_eq (vin : Level) (vref : RefLevel) (c : Conversion) (s : State) :
    completeSpots (codeOf vin vref s) c (passedOn vin vref c s) = completedAt vin vref c s := by
  have hreported := passedOn_reported vin vref c s
  have hseq : (passedOn vin vref c s).seq = s.seq := hreported.seq
  have hprofile (p : ProfileNo) : (passedOn vin vref c s).profile p = s.profile p :=
    congrArg (·[p]) hreported.profiles
  have hcount := passedOn_useCount vin vref c s
  have hserved : (s.seq.spots.filter fun e => e.place == .inFlight) = servedSpots s := rfl
  have hleft : (s.seq.spots.filter fun e => !(e.place == .inFlight)) =
      s.seq.spots.filter fun e => decide (e.place ≠ .inFlight) :=
    List.filter_congr fun e _ => (decide_not (p := e.place = .inFlight)).symm
  have hcopy (e : SpotEntry) : spotCopy (codeOf vin vref s) c (passedOn vin vref c s) e =
      (e.port, servedRecord (codeOf vin vref s) c s e) := by
    rw [spotCopy, spotRecord_eq]
    simp only [servedRecord, hprofile]
  rw [completeSpots_eq, hseq, hserved, hleft, List.map_congr_left fun e _ => hcopy e, completedAt, spotsLeft, hseq]
  simp only [hcount]

theorem completeConversion_eq {vin : Level} {vref : RefLevel} {c : Conversion} {s : State}
    (h : s.conv.conversion = some c) :
    completeConversion vin vref s = converterFree (completedAt vin vref c s) := by
  rw [← completedAt_eq, ← passedOn_eq, ← released_eq]
  unfold completeConversion
  rw [h]
  rfl

section
variable {vin : Level} {vref : RefLevel} {c : Conversion} {s : State}

theorem completedAt_laws (h : LineLaws s) : LineLaws (completedAt vin vref c s) := by
  have hchanges : Changes (released vin vref s) (completedAt vin vref c s) := by
    rw [← completedAt_eq]
    exact (passedOn_changes vin vref c s).trans (completeSpots_changes _ _ _)
  obtain ⟨halarm, hwindow, htrip⟩ := h
  exact ⟨Changes.keep alarmLaw_kept hchanges halarm, Changes.keep windowLaw_kept hchanges hwindow,
    Changes.keep tripLaw_kept hchanges htrip⟩

theorem completedAt_slice (i : SubId) :
    sliceOf (completedAt vin vref c s) i = sliceOf (passedOn vin vref c s) i := rfl

theorem completedAt_conv : (completedAt vin vref c s).conv.power = .ready ∧
    (completedAt vin vref c s).conv.conversion = none := by
  have hconv : (completedAt vin vref c s).conv = (released vin vref s).conv :=
    (passedOn_reported vin vref c s).conv
  rw [hconv]
  exact ⟨rfl, rfl⟩

theorem completedAt_hpc : (completedAt vin vref c s).hpc = s.hpc := (passedOn_reported vin vref c s).hpc

/-- An id that no due frame of the conversion belongs to (R83). -/
theorem completedAt_other {i : SubId} (h : c.frame = none ∨
      ∀ d ∈ c.due, d.id = i → (s.window i).map Window.generation ≠ some d.generation) :
    sliceOf (completedAt vin vref c s) i = sliceOf s i := by
  rw [completedAt_slice, passedOn]
  cases hframe : c.frame with
  | none => rfl
  | some fn =>
    refine reportAll_other _ fn (released vin vref s) fun d hd => ?_
    rcases h with h | h
    · rw [hframe] at h
      cases h
    · exact h d ((sortDues_perm c.due).mem_iff.mp hd)

/-- A due frame that is not the last of its window (R84, R85). -/
theorem completedAt_moves {fn : FrameNo} {d : Due} {w : Window} (hframe : c.frame = some fn) (hd : d ∈ c.due)
    (hnodup : (c.due.map Due.id).Nodup) (hw : s.window d.id = some w) (hg : w.generation = d.generation)
    (hlast : w.position + 1 < w.average.count) : sliceOf (completedAt vin vref c s) d.id =
      { sliceOf s d.id with window := some (if c.refFault then
          { w with misses := w.misses + 1, refFault := true, position := w.position + 1 }
        else { w with
          folded := w.folded + 1, sum := w.sum + (codeOf vin vref s).toNat, position := w.position + 1
          railLow := w.railLow || decide (codeOf vin vref s = 0)
          railHigh := w.railHigh || decide (codeOf vin vref s = 4095) }) } := by
  have hmem : d ∈ sortDues c.due := (sortDues_perm c.due).mem_iff.mpr hd
  have hsorted : ((sortDues c.due).map Due.id).Nodup := ((sortDues_perm c.due).map Due.id).nodup_iff.mpr hnodup
  have hslice := reportAll_moves (e := if c.refFault then .faulted else .folded (codeOf vin vref s)) (fn := fn)
    (s := released vin vref s) hmem hsorted hw hg hlast.ne
  rw [completedAt_slice, passedOn]
  cases hframe' : c.frame with
  | none =>
    rw [hframe'] at hframe
    cases hframe
  | some fn' =>
    obtain rfl : fn' = fn := Option.some.inj (hframe'.symm.trans hframe)
    refine hslice.trans ?_
    rw [take_eq]
    cases c.refFault <;> rfl

end

end Sys2Proof.Machine

namespace Sys2Proof.Proofs

open Sys2Proof.Machine Sys2Proof.Safety

/-- Settles O32: what the completion leaves, and what the free converter takes up in each sequencer state. -/
theorem conversionCompletes : Obligations.ConversionCompletes := by
  unfold Obligations.ConversionCompletes
  intro vin vref c s hreset hc
  have hexec : exec (.conversionComplete vin vref) s = .next (converterFree (completedAt vin vref c s)) := by
    rw [← completeConversion_eq hc]
    exact unlessReset_ran (completeConversion vin vref) hreset
  rw [hexec]
  obtain ⟨hready, hidle⟩ := completedAt_conv (vin := vin) (vref := vref) (c := c) (s := s)
  have hhpc := completedAt_hpc (vin := vin) (vref := vref) (c := c) (s := s)
  refine ⟨sortDues c.due, sortDues_perm _, sortDues_ascending _, fun h => completedAt_laws h, fun hnodup => ⟨?_, ?_⟩,
    fun hs => ?_, fun hs hsource => ?_, fun hs hsource hsync => ?_, fun hs hspots => ?_, fun hs e he hw => ?_⟩
  · intro fn hframe d hd w hw hg hlast
    have hslice := completedAt_moves (vin := vin) (vref := vref) hframe hd hnodup hw hg hlast
    exact ⟨congrArg Slice.record hslice, congrArg Slice.window hslice⟩
  · intro i hi
    have hslice := completedAt_other (vin := vin) (vref := vref) hi
    exact ⟨congrArg Slice.window hslice, congrArg Slice.record hslice, congrArg Slice.watch hslice⟩
  · have hstate : (completedAt vin vref c s).seq.state = s.seq.state := rfl
    rw [converterFree_running (by rw [hstate]; rcases hs with hs | hs <;> rw [hs] <;> decide)
      (by rw [hstate]; rcases hs with hs | hs <;> rw [hs] <;> decide)]
    rfl
  · rw [converterFree_external (s := completedAt vin vref c s) hs hready hidle hsource]
    rfl
  · rw [converterFree_internal (s := completedAt vin vref c s) hs hready hidle hsource]
    have htaken := firstBoundary_taken (completedAt vin vref c s)
    generalize firstBoundary (completedAt vin vref c s) = t at *
    exact ⟨t, rfl, htaken.boundary, htaken.state, htaken.frameTimer.trans (if_neg hsync),
      fun v hv m hm => htaken.last v hv m ((reaches_congr hhpc m _).trans hm)⟩
  · rw [converterFree_empty (s := completedAt vin vref c s) hs hready hidle hspots]
    rfl
  · rw [converterFree_head (s := completedAt vin vref c s) hs hready hidle he hw]
    rfl

end Sys2Proof.Proofs
end

section
/-! SUPPORT. SUBT's share of a session end, record by record (R24 to R26). -/

namespace Sys2Proof.Machine

open Sys2Proof.Safety

/-! ### One owned record -/

/-- Does this record become FREE at its turn in the session end of port n, the sequencer being in state q (R24)? -/
def endsFree (n : Port) (q : SeqState) (r : SubRecord) : Bool :=
  decide (r.owner = some n) && !r.persist &&
    (decide (r.state = .staged) || decide (r.state = .active) && decide (q = .stopped))

/-- Does this record become CLOSING at its turn? -/
def endsClosing (n : Port) (q : SeqState) (r : SubRecord) : Bool :=
  decide (r.owner = some n) && !r.persist && decide (r.state = .active) && decide (q ≠ .stopped)

/-- The slice of a record after its turn in the session end of port n (R24, R25). -/
def endingSlice (n : Port) (q : SeqState) (_ : SubId) (x : Slice) : Slice :=
  if endsFree n q x.record then freedSlice
  else if endsClosing n q x.record then
    ⟨{ x.record with owner := none, state := .closing, staged := none }, none,
      x.watch.map fun w => { w with frozen := true }, x.latest⟩
  else if x.record.owner = some n then { x with record := { x.record with owner := none } }
  else x

/-- The line to which the turn of a record makes an EXIT report. -/
def endingExit (n : Port) (q : SeqState) (x : Slice) : Option LineNo :=
  if endsFree n q x.record then exitLine x.watch else none

/-- The SUB_ORPHANED of a record that the session end of port n leaves without an owner (R25). -/
def orphanedOf (n : Port) (i : SubId) (r : SubRecord) : Announced :=
  ⟨r.readers, .subOrphaned, BitVec.ofNat 8 i.val, BitVec.ofNat 16 n.val⟩

/-- The events of the turn of a record, but for a release. -/
def endingEvents (n : Port) (q : SeqState) (i : SubId) (x : Slice) : List Announced :=
  if endsFree n q x.record then [subEndedOf i { x.record with owner := none }]
  else if x.record.owner = some n ∧ x.record.persist = true ∧ Live x.record then [orphanedOf n i x.record]
  else []

theorem clearOwner_outer (i : SubId) (s : State) : OuterKept s (clearOwner i s) :=
  ⟨rfl, rfl, rfl, rfl, rfl, rfl, rfl, fun _ => ⟨rfl, rfl⟩, rfl, rfl, rfl⟩

theorem clearOwner_slice (i j : SubId) (s : State) : sliceOf (clearOwner i s) j =
    if j = i then { sliceOf s i with record := { s.record i with owner := none } } else sliceOf s j := by
  rw [sliceOf, clearOwner_record]
  by_cases hj : j = i
  · subst hj
    rw [if_pos rfl, if_pos rfl]
    rfl
  · rw [if_neg hj, if_neg hj]
    rfl

theorem recordShut_outer (i : SubId) (s : State) : OuterKept s (recordShut i s) :=
  ⟨rfl, rfl, rfl, rfl, rfl, rfl, rfl, fun k => by
    have hinput : (recordShut i s).input k = _ := tabulate_getElem _ k
    rw [hinput]
    exact ⟨rfl, rfl⟩, rfl, rfl, rfl⟩

theorem recordShut_slice (i j : SubId) (s : State) : sliceOf (recordShut i s) j =
    if j = i then ⟨{ s.record i with state := .closing, staged := none }, none,
      (s.watch i).map fun w => { w with frozen := true }, s.dlv.latest[i]⟩ else sliceOf s j := by
  rw [sliceOf, recordShut_record, recordShut_window, recordShut_watch]
  by_cases hj : j = i
  · subst hj
    simp only [if_true]
    rfl
  · simp only [if_neg hj]
    rfl

section
variable {n : Port} {q : SeqState} {i : SubId} {s : State}

/-- A turn that clears the owner alone. -/
theorem clearOwner_step {need : List Announced} (ho : (s.record i).owner = some n)
    (hfree : endsFree n q (s.record i) = false) (hclosing : endsClosing n q (s.record i) = false)
    (hneed : endingEvents n q i (sliceOf s i) = need) :
    RecordStep i (endingSlice n q i (sliceOf s i)) (endingExit n q (sliceOf s i)) (endingEvents n q i (sliceOf s i)) s
      (afterEvents need (clearOwner i s)) := by
  have hrecord : (sliceOf s i).record = s.record i := rfl
  have hslice : endingSlice n q i (sliceOf s i) = { sliceOf s i with record := { s.record i with owner := none } } := by
    simp [endingSlice, hrecord, hfree, hclosing, ho]
  have hexit : endingExit n q (sliceOf s i) = none := by simp [endingExit, hrecord, hfree]
  rw [hneed, hslice, hexit]
  exact .of_exits (clearOwner_outer i s) rfl rfl (clearOwner_slice i · s) (.none i _)

/-- A turn in which the record becomes FREE. -/
theorem freedOwned_step (hfree : endsFree n q (s.record i) = true) :
    RecordStep i (endingSlice n q i (sliceOf s i)) (endingExit n q (sliceOf s i)) (endingEvents n q i (sliceOf s i)) s
      (freeRecord i (clearOwner i s)) := by
  have hrecord : (sliceOf s i).record = s.record i := rfl
  have hslice : endingSlice n q i (sliceOf s i) = freedSlice := by simp [endingSlice, hrecord, hfree]
  have hexit : endingExit n q (sliceOf s i) = exitLine (s.watch i) := by
    simp only [endingExit, hrecord, hfree, if_true]
    rfl
  have hevents : endingEvents n q i (sliceOf s i) = [subEndedOf i { s.record i with owner := none }] := by
    simp [endingEvents, hrecord, hfree]
  rw [hslice, hexit, hevents, freeRecord_clearOwner]
  exact .of_exits (recordDropped_outer i s) rfl rfl (recordDropped_slice i · s) (exitIfAlarm_exits i _ _)

/-- A turn in which the record becomes CLOSING. -/
theorem closedOwned_step (ho : (s.record i).owner = some n) (hp : (s.record i).persist = false)
    (hst : (s.record i).state = .active) (hq : q ≠ .stopped) :
    RecordStep i (endingSlice n q i (sliceOf s i)) (endingExit n q (sliceOf s i)) (endingEvents n q i (sliceOf s i)) s
      (closeActive i (clearOwner i s)) := by
  have hrecord : (sliceOf s i).record = s.record i := rfl
  have hfree : endsFree n q (s.record i) = false := by simp [endsFree, hst, hq]
  have hclosing : endsClosing n q (s.record i) = true := by simp [endsClosing, ho, hp, hst, hq]
  have hslice : endingSlice n q i (sliceOf s i) =
      ⟨{ s.record i with owner := none, state := .closing, staged := none }, none,
        (s.watch i).map fun w => { w with frozen := true }, s.dlv.latest[i]⟩ := by
    simp only [endingSlice, hrecord, hfree, hclosing, if_true, Bool.false_eq_true, if_false]
    rfl
  have hexit : endingExit n q (sliceOf s i) = none := by simp [endingExit, hrecord, hfree]
  have hevents : endingEvents n q i (sliceOf s i) = [] := by simp [endingEvents, hrecord, hfree, hp]
  have hshut : closeActive i (clearOwner i s) = clearOwner i (recordShut i s) := by
    rw [closeActive_clearOwner, closeActive_shut]
  rw [hslice, hexit, hevents, hshut]
  refine .of_exits (u := clearOwner i (recordShut i s)) ((recordShut_outer i s).trans (clearOwner_outer i _)) rfl rfl
    (fun j => ?_) (by rw [afterEvents_nil]; exact .none i _)
  rw [clearOwner_slice]
  by_cases hj : j = i
  · rw [if_pos hj, if_pos hj, recordShut_slice, if_pos rfl, recordShut_record, if_pos rfl]
  · rw [if_neg hj, if_neg hj, recordShut_slice, if_neg hj]

/-- The turn of a record. -/
theorem recordSessionEnd_step (hq : s.seq.state = q) :
    RecordStep i (endingSlice n q i (sliceOf s i)) (endingExit n q (sliceOf s i)) (endingEvents n q i (sliceOf s i)) s
      (recordSessionEnd n i s) := by
  have hrecord : (sliceOf s i).record = s.record i := rfl
  have hcleared : (clearOwner i s).record i = { s.record i with owner := none } :=
    (clearOwner_record i i s).trans (if_pos rfl)
  have hnil : clearOwner i s = afterEvents [] (clearOwner i s) := (afterEvents_nil _).symm
  unfold recordSessionEnd
  dsimp only
  split
  next hother =>
    have hslice : endingSlice n q i (sliceOf s i) = sliceOf s i := by
      simp [endingSlice, endsFree, endsClosing, hrecord, hother]
    have hexit : endingExit n q (sliceOf s i) = none := by simp [endingExit, endsFree, hrecord, hother]
    have hevents : endingEvents n q i (sliceOf s i) = [] := by simp [endingEvents, endsFree, hrecord, hother]
    rw [hslice, hexit, hevents]
    exact .idle i s
  next howned =>
    have ho : (s.record i).owner = some n := not_not.mp howned
    split
    next hp =>
      have hfree : endsFree n q (s.record i) = false := by simp [endsFree, hp]
      have hclosing : endsClosing n q (s.record i) = false := by simp [endsClosing, hp]
      have horphaned (hlive : Live (s.record i)) : RecordStep i (endingSlice n q i (sliceOf s i))
          (endingExit n q (sliceOf s i)) (endingEvents n q i (sliceOf s i)) s
          (raise (s.record i).readers .subOrphaned (idByte i) (causeDetail 0 (portByte n)) (clearOwner i s)) := by
        rw [raise_eq, causeDetail_port]
        exact clearOwner_step ho hfree hclosing (by simp [endingEvents, hrecord, hfree, ho, hp, hlive]; rfl)
      have hquiet (hlive : ¬ Live (s.record i)) : RecordStep i (endingSlice n q i (sliceOf s i))
          (endingExit n q (sliceOf s i)) (endingEvents n q i (sliceOf s i)) s (clearOwner i s) := by
        rw [hnil]
        exact clearOwner_step ho hfree hclosing (by simp [endingEvents, hrecord, hfree, hlive])
      split
      next hst => exact horphaned (.inl hst)
      next hst => exact horphaned (.inr hst)
      next hst => exact hquiet fun h => by rcases h with h | h <;> cases hst.symm.trans h
      next hst => exact hquiet fun h => by rcases h with h | h <;> cases hst.symm.trans h
    next hp =>
      have hp : (s.record i).persist = false := Bool.not_eq_true _ ▸ hp
      have hquiet (hfree : endsFree n q (s.record i) = false) (hclosing : endsClosing n q (s.record i) = false) :
          RecordStep i (endingSlice n q i (sliceOf s i)) (endingExit n q (sliceOf s i))
            (endingEvents n q i (sliceOf s i)) s (clearOwner i s) := by
        rw [hnil]
        exact clearOwner_step ho hfree hclosing (by simp [endingEvents, hrecord, hfree, hp])
      rw [releaseRecord, hcleared]
      dsimp only
      split
      next hst => exact hquiet (by simp [endsFree, hst]) (by simp [endsClosing, hst])
      next hst => exact hquiet (by simp [endsFree, hst]) (by simp [endsClosing, hst])
      next hst => exact freedOwned_step (by simp [endsFree, ho, hp, hst])
      next hst =>
        split
        next hstopped =>
          have hstopped : q = .stopped := hq.symm.trans hstopped
          exact freedOwned_step (by simp [endsFree, ho, hp, hst, hstopped])
        next hstopped => exact closedOwned_step ho hp hst fun h => hstopped (hq.trans h)

end

/-- The turns of all records. -/
theorem recordEnds_steps (n : Port) (s : State) : RecordSteps (endingSlice n s.seq.state) (endingExit n s.seq.state)
    (endingEvents n s.seq.state) s subIds (subIds.foldl (fun s i => recordSessionEnd n i s) s) :=
  recordSteps_foldl (f := fun s i => recordSessionEnd n i s)
    (fun _ _ h => recordSessionEnd_step (congrArg Seq.state h.seq)) fun t i => recordSessionEnd_changes n i t

theorem recordEnds_changes (n : Port) (s : State) :
    Changes s (subIds.foldl (fun s i => recordSessionEnd n i s) s) :=
  Changes.foldl (fun s i => recordSessionEnd_changes n i s) subIds s

end Sys2Proof.Machine
end

section
/-! SUPPORT. The records, the run vote and the entry to STOPPED at a session end (R24 to R26, R35). -/

namespace Sys2Proof.Machine

open Sys2Proof.Safety

/-! ### The slice of a record at the end of a session -/

/-- A slice without port n among the readers (R26). -/
def readerless (n : Port) (x : Slice) : Slice :=
  { x with record := { x.record with readers := x.record.readers.drop n } }

/-- The slice of a record after the session end of port n, the sequencer having been in q and being in q'
(R24 to R26, R82, R112). -/
def endSlice (n : Port) (q q' : SeqState) (x : Slice) : Slice :=
  ⟨recordAfterEnd n q q' x.record,
    if (recordAfterEnd n q q' x.record).state = .active then x.window else none,
    if (recordAfterEnd n q q' x.record).state = .free then none
      else if (recordAfterEnd n q q' x.record).state = .closing then x.watch.map fun w => { w with frozen := true }
      else x.watch,
    if x.record.state ≠ .free ∧ (recordAfterEnd n q q' x.record).state = .free then none else x.latest⟩

theorem dropReader_slice (n : Port) (s : State) (i : SubId) :
    sliceOf (dropReader n s) i = readerless n (sliceOf s i) := by
  have hrecord : (dropReader n s).record i = { s.record i with readers := (s.record i).readers.drop n } :=
    tabulate_getElem _ _
  rw [sliceOf, hrecord]
  rfl

/-- What the law of windows and watches says of a slice, where the end of a session needs it. -/
structure SliceLaw (x : Slice) : Prop where
  window : x.record.state ≠ .active → x.window = none
  closing : x.record.state = .closing → x.watch.map (fun w => { w with frozen := true }) = x.watch
  unwatched : x.record.state = .free ∨ x.record.state = .staged → x.watch = none

theorem sliceLaw_of_windowLaw {s : State} (h : WindowLaw s) (i : SubId) : SliceLaw (sliceOf s i) := by
  obtain ⟨hactive, -, -, hclosing, hunwatched⟩ := h i
  refine ⟨fun hst => ?_, fun hst => ?_, hunwatched⟩
  · exact Option.not_isSome_iff_eq_none.mp fun hsome => hst (hactive.mp hsome)
  · have hwatch : (sliceOf s i).watch = s.watch i := rfl
    rw [hwatch]
    cases hw : s.watch i with
    | none => rfl
    | some w =>
      have hfrozen := hclosing hst w hw
      cases w
      cases hfrozen
      rfl

section
variable {n : Port} {q q' : SeqState} {i : SubId} {x : Slice}

/-- The turn of a record is all that it sees, when the sequencer does not enter STOPPED. -/
theorem endingSlice_eq (h : SliceLaw x) (hq : q = .stopped ↔ q' = .stopped) :
    endingSlice n q i (readerless n x) = endSlice n q q' x := by
  obtain ⟨hwindow, hclosing, hunwatched⟩ := h
  obtain ⟨r, win, wat, lat⟩ := x
  have hboth : ¬ (q ≠ .stopped ∧ q' = .stopped) := fun ⟨hne, h⟩ => hne (hq.mpr h)
  cases hst : r.state with
  | free =>
    obtain rfl : win = none := hwindow (by simp [hst])
    obtain rfl : wat = none := hunwatched (.inl hst)
    by_cases ho : r.owner = some n <;>
      simp [endingSlice, endSlice, readerless, recordAfterEnd, endsFree, endsClosing, hst, ho]
  | staged =>
    obtain rfl : win = none := hwindow (by simp [hst])
    obtain rfl : wat = none := hunwatched (.inr hst)
    by_cases ho : r.owner = some n <;> cases hp : r.persist <;>
      simp [endingSlice, endSlice, readerless, recordAfterEnd, endsFree, endsClosing, hst, ho, hp, freedSlice]
  | active =>
    by_cases ho : r.owner = some n
    · cases hp : r.persist
      · by_cases hs : q' = .stopped
        · simp [endingSlice, endSlice, readerless, recordAfterEnd, endsFree, hst, ho, hp, hs, hq.mpr hs, freedSlice]
        · have hs' : q ≠ .stopped := fun h => hs (hq.mp h)
          simp [endingSlice, endSlice, readerless, recordAfterEnd, endsFree, endsClosing, hst, ho, hp, hs, hs']
      · simp [endingSlice, endSlice, readerless, recordAfterEnd, endsFree, endsClosing, hst, ho, hp]
    · simp [endingSlice, endSlice, readerless, recordAfterEnd, endsFree, endsClosing, hst, ho]
  | closing =>
    obtain rfl : win = none := hwindow (by simp [hst])
    have hfrozen := hclosing hst
    dsimp only at hfrozen
    by_cases ho : r.owner = some n <;>
      simp [endingSlice, endSlice, readerless, recordAfterEnd, endsFree, endsClosing, hst, ho, hboth, hfrozen]

/-- When the sequencer enters STOPPED, the CLOSING records become FREE behind their turn. -/
theorem closedSlice_eq (h : SliceLaw x) (hq : q ≠ .stopped) :
    closedSlice i (endingSlice n q i (readerless n x)) = endSlice n q .stopped x := by
  obtain ⟨hwindow, hclosing, hunwatched⟩ := h
  obtain ⟨r, win, wat, lat⟩ := x
  cases hst : r.state with
  | free =>
    obtain rfl : win = none := hwindow (by simp [hst])
    obtain rfl : wat = none := hunwatched (.inl hst)
    by_cases ho : r.owner = some n <;>
      simp [closedSlice, endingSlice, endSlice, readerless, recordAfterEnd, endsFree, endsClosing, hst, ho]
  | staged =>
    obtain rfl : win = none := hwindow (by simp [hst])
    obtain rfl : wat = none := hunwatched (.inr hst)
    by_cases ho : r.owner = some n <;> cases hp : r.persist <;>
      simp [closedSlice, endingSlice, endSlice, readerless, recordAfterEnd, endsFree, endsClosing, hst, ho, hp,
        freedSlice]
  | active =>
    by_cases ho : r.owner = some n
    · cases hp : r.persist <;>
        simp [closedSlice, endingSlice, endSlice, readerless, recordAfterEnd, endsFree, endsClosing, hst, ho, hp, hq,
          freedSlice]
    · simp [closedSlice, endingSlice, endSlice, readerless, recordAfterEnd, endsFree, endsClosing, hst, ho]
  | closing =>
    obtain rfl : win = none := hwindow (by simp [hst])
    by_cases ho : r.owner = some n <;>
      simp [closedSlice, endingSlice, endSlice, readerless, recordAfterEnd, endsFree, endsClosing, hst, ho, hq,
        freedSlice]

end

end Sys2Proof.Machine
end

section
/-! SUPPORT. What the shares of SUBT and of the run vote leave at a session end, in each of their cases. -/

namespace Sys2Proof.Machine

open Sys2Proof.Safety

/-! ### The run vote (R28, R35) -/

/-- SEQ without the vote of port n, when that does not stop it (R35). -/
def seqWithout (n : Port) (q : Seq) : Seq :=
  { q with
    votes := q.votes.drop n
    state := seqAfterEnd n q
    haltCause := if q.state = .running ∧ seqAfterEnd n q = .halting then some ⟨n, .sessionEnd⟩ else q.haltCause }

/-- The state after the vote of port n has gone. -/
def voteGone (n : Port) (s : State) : State := if s.seq.votes.has n then dropVote n .sessionEnd s else s

theorem drop_of_not_has {n : Port} {v : PortSet} (h : v.has n = false) : v.drop n = v := by
  obtain ⟨a, b, c⟩ := v
  revert h
  fin_cases n
  · rintro rfl
    rfl
  · rintro rfl
    rfl
  · rintro rfl
    rfl

theorem seqAfterEnd_same {n : Port} {q : Seq}
    (h : ¬ (q.votes.has n = true ∧ q.votes.drop n = ⟨false, false, false⟩)) :
    seqAfterEnd n q = q.state := if_neg h

theorem seqWithout_same {n : Port} {q : Seq} (h : seqAfterEnd n q = q.state) :
    seqWithout n q = { q with votes := q.votes.drop n } := by
  unfold seqWithout
  rw [h, if_neg fun ⟨hrun, hhalt⟩ => by cases hrun.symm.trans hhalt]

/-- Does the sequencer return from STARTING to STOPPED when the vote of port n goes (R30, R34)? -/
def Returns (n : Port) (q : Seq) : Prop := q.state = .starting ∧ seqAfterEnd n q = .stopped

/-- The vote of port n goes, and the sequencer is stopped at once when it was the last of STARTING (R30, R35). -/
theorem voteGone_cases (n : Port) (s : State) :
    (¬ Returns n s.seq ∧ voteGone n s = s.withSeq (seqWithout n s.seq)) ∨
    (Returns n s.seq ∧ voteGone n s = enterStopped (s.withSeq { s.seq with votes := s.seq.votes.drop n })) := by
  unfold voteGone
  by_cases hvote : s.seq.votes.has n = true
  · rw [if_pos hvote]
    by_cases hlast : s.seq.votes.drop n = ⟨false, false, false⟩
    · have hafter : seqAfterEnd n s.seq = _ := if_pos ⟨hvote, hlast⟩
      rw [dropVote_last .sessionEnd hlast]
      have hempties (hs : SeqState) (h : s.seq.state = hs) :
          (s.withSeq { s.seq with votes := s.seq.votes.drop n }).seq.state = hs := h
      cases hs : s.seq.state with
      | starting =>
        rw [hs] at hafter
        exact .inr ⟨⟨hs, hafter⟩, by rw [votesEmptied, hempties _ hs]⟩
      | running =>
        rw [hs] at hafter
        refine .inl ⟨fun h => (by cases hs.symm.trans h.1), ?_⟩
        rw [votesEmptied, hempties _ hs, seqWithout, hafter, if_pos ⟨hs, rfl⟩]
        rfl
      | stopped =>
        rw [hs] at hafter
        refine .inl ⟨fun h => (by cases hs.symm.trans h.1), ?_⟩
        rw [votesEmptied, hempties _ hs, seqWithout_same (hafter.trans hs.symm)]
      | halting =>
        rw [hs] at hafter
        refine .inl ⟨fun h => (by cases hs.symm.trans h.1), ?_⟩
        rw [votesEmptied, hempties _ hs, seqWithout_same (hafter.trans hs.symm)]
    · have hsame := seqAfterEnd_same (n := n) (q := s.seq) fun h => hlast h.2
      refine .inl ⟨fun h => (by cases h.1.symm.trans (hsame.symm.trans h.2)), ?_⟩
      rw [dropVote_others .sessionEnd hlast, seqWithout_same hsame]
  · rw [if_neg hvote]
    have hsame := seqAfterEnd_same (n := n) (q := s.seq) fun h => hvote h.1
    refine .inl ⟨fun h => (by cases h.1.symm.trans (hsame.symm.trans h.2)), ?_⟩
    rw [seqWithout_same hsame, drop_of_not_has (Bool.not_eq_true _ ▸ hvote)]
    rfl

/-- Without a return to STOPPED the sequencer is STOPPED after the vote exactly when it was before. -/
theorem seqAfterEnd_stopped {n : Port} {q : Seq} (h : ¬ Returns n q) :
    q.state = .stopped ↔ seqAfterEnd n q = .stopped := by
  by_cases hlast : q.votes.has n = true ∧ q.votes.drop n = ⟨false, false, false⟩
  · have hafter : seqAfterEnd n q = _ := if_pos hlast
    cases hs : q.state with
    | starting =>
      rw [hs] at hafter
      exact absurd ⟨hs, hafter⟩ h
    | running => rw [hafter, hs]; simp
    | stopped => rw [hafter, hs]
    | halting => rw [hafter, hs]
  · rw [seqAfterEnd_same hlast]

/-! ### Audiences without the ending port (R14, R25) -/

theorem audienceOf_without {n : Port} {r r' : SubRecord} (ho : r'.owner = if r.owner = some n then none else r.owner)
    (hr : r'.readers = r.readers.drop n) : audienceOf r' = (audienceOf r).drop n := by
  unfold audienceOf
  rw [ho, hr, PortSet.drop_eq, PortSet.drop_eq]
  cases hown : r.owner with
  | none => simp
  | some m => fin_cases n <;> fin_cases m <;> simp

end Sys2Proof.Machine
end

section
/-! SUPPORT. SUBT's share of a session end, whole (R24 to R26). -/

namespace Sys2Proof.Machine

open Sys2Proof.Safety

/-! ### Which records become FREE, and which reports and events that makes -/

section
variable {n : Port} {q q' : SeqState} {i : SubId} {x : Slice} {m : LineNo}

/-- With a watch in an alarm state a record is ACTIVE or CLOSING (R100, R112). -/
theorem SliceLaw.state_of_alarm (h : SliceLaw x) (hw : boundInAlarm x.watch m = true) :
    x.record.state = .active ∨ x.record.state = .closing := by
  cases hst : x.record.state with
  | free =>
    rw [h.unwatched (.inl hst)] at hw
    cases hw
  | staged =>
    rw [h.unwatched (.inr hst)] at hw
    cases hw
  | active => exact .inl rfl
  | closing => exact .inr rfl

/-- Without a return to STOPPED, the records that become FREE do so at their turn. -/
theorem endsFree_of_freed (hq : q = .stopped ↔ q' = .stopped) (hne : x.record.state ≠ .free)
    (hfree : (recordAfterEnd n q q' x.record).state = .free) : endsFree n q x.record = true := by
  have hboth : ¬ (q ≠ .stopped ∧ q' = .stopped) := fun ⟨hne, h⟩ => hne (hq.mpr h)
  cases hst : x.record.state with
  | free => exact absurd hst hne
  | staged =>
    by_cases hleft : x.record.owner = some n ∧ x.record.persist = false
    · simp [endsFree, hleft, hst]
    · simp [recordAfterEnd, hst, hleft] at hfree
  | active =>
    by_cases hleft : x.record.owner = some n ∧ x.record.persist = false
    · by_cases hs : q' = .stopped
      · simp [endsFree, hleft, hst, hq.mpr hs]
      · simp [recordAfterEnd, hst, hleft, hs] at hfree
    · simp [recordAfterEnd, hst, hleft] at hfree
  | closing => simp [recordAfterEnd, hst, hboth] at hfree

theorem freed_of_endsFree (hq : q = .stopped → q' = .stopped) (h : endsFree n q x.record = true) :
    (recordAfterEnd n q q' x.record).state = .free := by
  simp only [endsFree, Bool.and_eq_true, Bool.or_eq_true, decide_eq_true_eq, Bool.not_eq_true'] at h
  obtain ⟨⟨ho, hp⟩, hst | ⟨hst, hs⟩⟩ := h
  · simp [recordAfterEnd, hst, ho, hp]
  · simp [recordAfterEnd, hst, ho, hp, hq hs]

theorem exit_of_turn (h : SliceLaw x) (hq : q = .stopped ↔ q' = .stopped) :
    (boundInAlarm x.watch m && endsFree n q x.record) =
      (boundInAlarm x.watch m && decide ((recordAfterEnd n q q' x.record).state = .free)) := by
  cases hw : boundInAlarm x.watch m with
  | false => rfl
  | true =>
    have hne : x.record.state ≠ .free := fun hst => by
      rcases h.state_of_alarm hw with h | h <;> cases h.symm.trans hst
    rw [Bool.true_and, Bool.true_and]
    refine Bool.eq_iff_iff.mpr ?_
    rw [decide_eq_true_iff]
    exact ⟨freed_of_endsFree hq.mp, endsFree_of_freed hq hne⟩

/-- A record after its turn, when it has not become FREE. -/
theorem endingSlice_kept (h : endsFree n q x.record = false) :
    (endingSlice n q i x).record.owner = (if x.record.owner = some n then none else x.record.owner) ∧
    (endingSlice n q i x).record.readers = x.record.readers ∧
    (endingSlice n q i x).record.sequence = x.record.sequence ∧
    (endingSlice n q i x).record.state = (if endsClosing n q x.record then .closing else x.record.state) ∧
    ∀ m, boundInAlarm (endingSlice n q i x).watch m = boundInAlarm x.watch m := by
  unfold endingSlice
  rw [h, if_neg (by decide)]
  by_cases hclosing : endsClosing n q x.record = true
  · have ho : x.record.owner = some n := by
      simp only [endsClosing, Bool.and_eq_true, decide_eq_true_eq] at hclosing
      exact hclosing.1.1.1
    rw [if_pos hclosing, if_pos hclosing, if_pos ho]
    exact ⟨rfl, rfl, rfl, rfl, fun m => by cases x.watch <;> rfl⟩
  · rw [if_neg hclosing, if_neg hclosing]
    by_cases ho : x.record.owner = some n
    · rw [if_pos ho, if_pos ho]
      exact ⟨rfl, rfl, rfl, rfl, fun _ => rfl⟩
    · rw [if_neg ho, if_neg ho]
      exact ⟨rfl, rfl, rfl, rfl, fun _ => rfl⟩

/-- At a return to STOPPED a record that becomes FREE does so at its turn or is CLOSING behind it. -/
theorem freed_at_return (hq : q ≠ .stopped) (hne : x.record.state ≠ .free)
    (hstays : endsFree n q x.record = false) :
    (recordAfterEnd n q .stopped x.record).state = .free ↔
      (endingSlice n q i x).record.state = .closing := by
  obtain ⟨-, -, -, hstate, -⟩ := endingSlice_kept (i := i) hstays
  rw [hstate]
  cases hst : x.record.state with
  | free => exact absurd hst hne
  | staged =>
    have hkept : ¬ (x.record.owner = some n ∧ x.record.persist = false) := fun ⟨ho, hp⟩ => by
      simp [endsFree, ho, hp, hst] at hstays
    simp [recordAfterEnd, endsClosing, hst, hkept]
  | active =>
    by_cases ho : x.record.owner = some n
    · cases hp : x.record.persist <;> simp [recordAfterEnd, endsClosing, hst, ho, hp, hq]
    · simp [recordAfterEnd, endsClosing, hst, ho]
  | closing => simp [recordAfterEnd, endsClosing, hst, hq]

theorem exit_of_return (h : SliceLaw x) (hq : q ≠ .stopped) :
    (boundInAlarm (endingSlice n q i x).watch m && decide ((endingSlice n q i x).record.state = .closing)) =
      (boundInAlarm x.watch m && decide ((recordAfterEnd n q .stopped x.record).state = .free)) := by
  by_cases hfree : endsFree n q x.record = true
  · have hfreed : endingSlice n q i x = freedSlice := if_pos hfree
    have hnone : boundInAlarm x.watch m = false := by
      have hst : x.record.state = .staged := by
        simp only [endsFree, Bool.and_eq_true, Bool.or_eq_true, decide_eq_true_eq] at hfree
        exact hfree.2.resolve_right fun h => hq h.2
      rw [h.unwatched (.inr hst)]
      rfl
    rw [hfreed, hnone]
    rfl
  · have hstays : endsFree n q x.record = false := Bool.not_eq_true _ ▸ hfree
    obtain ⟨-, -, -, -, hwatch⟩ := endingSlice_kept (i := i) hstays
    rw [hwatch m]
    cases hw : boundInAlarm x.watch m with
    | false => rfl
    | true =>
      have hne : x.record.state ≠ .free := fun hst => by
        rcases h.state_of_alarm hw with h | h <;> cases h.symm.trans hst
      rw [Bool.true_and, Bool.true_and]
      exact decide_eq_decide.mpr (freed_at_return hq hne hstays).symm

end

/-! ### The records after SUBT's share -/

/-- The EXIT reports of the records that become FREE at their turn (R112). -/
def turnExits (n : Port) (m : LineNo) (s : State) : List SubId :=
  exitIds m (fun i => endsFree n s.seq.state (s.record i)) s

/-- SUBT's share of the session end of port n. -/
structure RecordsEnded (n : Port) (s b : State) : Prop extends OuterKept s b where
  changes : Changes s b
  slice : ∀ i, sliceOf b i = endingSlice n s.seq.state i (readerless n (sliceOf s i))
  told : ∃ l : List Announced, Told s.seq.fn l s b ∧
    (∀ i, endingEvents n s.seq.state i (readerless n (sliceOf s i)) ⊆ l) ∧
    ∀ m : LineNo, (s.seq.state ≠ .stopped → b.line m = s.line m) ∧ (s.seq.state = .stopped →
      b.line m = lineAfterExits (turnExits n m s) (b.alarms m) (s.line m) ∧
      (turnExits n m s ≠ [] → Releasable (b.alarms m) (s.line m) →
        ∃ i, releasingExit (s.alarms m) (turnExits n m s) = some i ∧ releasedByExit m i ∈ l))

theorem ending_orderly {n : Port} {s : State} (h : s.seq.state = .stopped) (m : LineNo) :
    Orderly (endingSlice n s.seq.state) (endingExit n s.seq.state) s m := by
  refine .of_cases fun j => ?_
  have hnever : endsClosing n s.seq.state (sliceOf s j).record = false := by simp [endsClosing, h]
  by_cases hfree : endsFree n s.seq.state (sliceOf s j).record = true
  · have hslice : endingSlice n s.seq.state j (sliceOf s j) = freedSlice := if_pos hfree
    have hexit : endingExit n s.seq.state (sliceOf s j) = exitLine (s.watch j) := if_pos hfree
    rw [hslice, hexit]
    exact .inr ⟨rfl, fun hrep => Bool.eq_false_iff.mpr fun hin => hrep (inAlarmSet_exitLine hin)⟩
  · have hexit : endingExit n s.seq.state (sliceOf s j) = none := if_neg hfree
    rw [hexit]
    refine .inl ⟨?_, rfl⟩
    have hwatch : (endingSlice n s.seq.state j (sliceOf s j)).watch = s.watch j := by
      unfold endingSlice
      rw [if_neg hfree, hnever, if_neg (by decide)]
      split
      · rfl
      · rfl
    rw [hwatch]

theorem dropReader_outer (n : Port) (s : State) : OuterKept s (dropReader n s) :=
  ⟨rfl, rfl, rfl, rfl, rfl, rfl, rfl, fun _ => ⟨rfl, rfl⟩, rfl, rfl, rfl⟩

theorem subSessionEnd_ended (n : Port) {s : State} (hlaws : LineLaws s) : RecordsEnded n s (subSessionEnd n s) := by
  have hsteps := recordEnds_steps n (dropReader n s)
  have hchanges := recordEnds_changes n (dropReader n s)
  have hdrop := dropReader_changes n s
  have hreaders : LineLaws (dropReader n s) := by
    obtain ⟨halarm, hwindow, htrip⟩ := hlaws
    exact ⟨Changes.keep alarmLaw_kept hdrop halarm, Changes.keep windowLaw_kept hdrop hwindow,
      Changes.keep tripLaw_kept hdrop htrip⟩
  have hslices (i : SubId) : sliceOf (dropReader n s) i = readerless n (sliceOf s i) := dropReader_slice n s i
  have hexits (m : LineNo) : reporters (endingExit n s.seq.state) (dropReader n s) m subIds = turnExits n m s := by
    unfold turnExits exitIds reporters
    refine List.filter_congr fun i _ => Bool.eq_iff_iff.mpr ?_
    rw [hslices i, decide_eq_true_iff, Bool.and_eq_true, boundInAlarm_iff]
    have hsame : endsFree n s.seq.state (readerless n (sliceOf s i)).record =
        endsFree n s.seq.state (s.record i) := rfl
    have hwatch : (readerless n (sliceOf s i)).watch = s.watch i := rfl
    rw [endingExit, hsame, hwatch]
    cases hfree : endsFree n s.seq.state (s.record i) <;> simp [hfree]
  have hseq : (dropReader n s).seq.state = s.seq.state := rfl
  unfold subSessionEnd
  generalize subIds.foldl (fun s i => recordSessionEnd n i s) (dropReader n s) = b at *
  rw [hseq] at hsteps
  refine { toOuterKept := (dropReader_outer n s).trans hsteps.toOuterKept, changes := hdrop.trans hchanges,
           slice := fun i => by rw [hsteps.slice_all i, hslices i], told := ?_ }
  by_cases hstopped : s.seq.state = .stopped
  · obtain ⟨l, htold, hneed, hlines⟩ := hsteps.toldAll hchanges fun _ m =>
      ending_orderly (s := dropReader n s) hstopped m
    obtain ⟨⟨hfollow, -⟩, hreleased⟩ := hlines hreaders
    simp only [hexits] at hfollow hreleased
    exact ⟨l, ⟨htold.hpc, htold.queues⟩, fun i => hslices i ▸ hneed i, fun m =>
      ⟨fun hne => absurd hstopped hne, fun _ => ⟨(hfollow m).2, hreleased m⟩⟩⟩
  · obtain ⟨l, htold, hneed, -⟩ := hsteps.told
    refine ⟨l, ⟨htold.hpc, htold.queues⟩, fun i => hslices i ▸ hneed i (mem_subIds i), fun m =>
      ⟨fun _ => hsteps.quiet m fun j _ hexit => ?_, fun h => absurd h hstopped⟩⟩
    rw [endingExit] at hexit
    split at hexit
    next hfree =>
      have hst : ((dropReader n s).record j).state = .staged := by
        simp only [endsFree, Bool.and_eq_true, Bool.or_eq_true, decide_eq_true_eq] at hfree
        exact hfree.2.resolve_right fun h => hstopped h.2
      have hnone := (sliceLaw_of_windowLaw hreaders.2.1 j).unwatched (.inr hst)
      rw [hnone] at hexit
      cases hexit
    next => cases hexit

end Sys2Proof.Machine
end

section
/-! SUPPORT. The shares of SUBT and of the run vote at a session end, together (R24 to R26, R35). -/

namespace Sys2Proof.Machine

open Sys2Proof.Safety

theorem subEndedOf_without {n : Port} {i : SubId} {r r' : SubRecord}
    (ho : r'.owner = if r.owner = some n then none else r.owner) (hr : r'.readers = r.readers.drop n)
    (hseq : r'.sequence = r.sequence) :
    subEndedOf i r' = { subEndedOf i r with audience := (audienceOf r).drop n } := by
  rw [subEndedOf, audienceOf_without ho hr, hseq]
  rfl

/-- Between s and c the records and the vote of port n have gone. -/
structure VoteLeft (n : Port) (s c : State) : Prop where
  changes : Changes s c
  told : ∃ l, Told s.seq.fn l s c
  state : c.seq.state = seqAfterEnd n s.seq
  votes : c.seq.votes = s.seq.votes.drop n
  haltCause : c.seq.haltCause =
    if s.seq.state = .running ∧ c.seq.state = .halting then some ⟨n, .sessionEnd⟩ else s.seq.haltCause
  sequencer : if s.seq.state = .starting ∧ c.seq.state = .stopped then
      c.seq.frameTimer = none ∧ c.seq.syncTimer = none ∧ c.seq.starter = none ∧ c.seq.list = [] ∧
      c.seq.sync = (if s.seq.source = .external then .waiting else .off)
    else
      c.seq.frameTimer = s.seq.frameTimer ∧ c.seq.syncTimer = s.seq.syncTimer ∧ c.seq.starter = s.seq.starter ∧
      c.seq.sync = s.seq.sync ∧ c.seq.slot = s.seq.slot ∧ c.seq.list = s.seq.list
  fn : c.seq.fn = s.seq.fn
  timing : c.seq.slots = s.seq.slots ∧ c.seq.divider = s.seq.divider ∧ c.seq.source = s.seq.source ∧
    c.seq.syncTimeout = s.seq.syncTimeout
  places : c.seq.spots.map unplaced = s.seq.spots.map unplaced
  idle : ¬ StandaloneResumes s c ∨ s.seq.spots = [] →
    c.seq.spots = s.seq.spots ∧ c.isel.routed = s.isel.routed ∧ c.isel.refOk = s.isel.refOk ∧
    (c.conv = s.conv ∨ (StandaloneResumes s c ∧ s.seq.spots = [] ∧ c.conv = { s.conv with power := .off }))
  served : StandaloneResumes s c → ∀ e ∈ s.seq.spots.head?, e.place = .waiting →
    StandaloneStarts everyPort e.input s c ∧ c.seq.spots = (standaloneBegun e.input s).seq.spots
  slice : ∀ i, sliceOf c i = endSlice n s.seq.state c.seq.state (sliceOf s i)
  orphaned : ∀ i, Live (s.record i) → (s.record i).owner = some n → (s.record i).persist = true →
    Offered s.seq.fn ⟨(s.record i).readers.drop n, .subOrphaned, BitVec.ofNat 8 i.val, BitVec.ofNat 16 n.val⟩ s c
  ended : ∀ i, (s.record i).state ≠ .free → (c.record i).state = .free →
    Offered s.seq.fn { subEndedOf i (s.record i) with audience := (audienceOf (s.record i)).drop n } s c
  profile : ∀ p, c.profile p =
    if s.seq.state ≠ .stopped ∧ c.seq.state = .stopped then activated (s.profile p) else s.profile p
  line : ∀ l, c.line l = lineFound l s c
  released : ∀ l, freedExits l s c ≠ [] → Releasable (c.alarms l) (s.line l) →
    ∃ i, i ∈ freedExits l s c ∧
      (s.seq.state = .stopped → releasingExit (s.alarms l) (freedExits l s c) = some i) ∧
      Offered s.seq.fn (releasedByExit l i) s c
  modes : ∀ k : InputNo, (c.input k).mode = (s.input k).mode ∧ (c.input k).polarity = (s.input k).polarity
  refin : c.isel.refin = s.isel.refin
  resetting : c.resetting = s.resetting
  freeCount : c.freeCount = s.freeCount
  pending : c.pending = s.pending

section
variable {n : Port} {s b : State}

theorem endsFree_turn (i : SubId) :
    endsFree n s.seq.state (readerless n (sliceOf s i)).record = endsFree n s.seq.state (s.record i) := rfl

/-- The turn of an orphan raises its SUB_ORPHANED (R25). -/
theorem RecordsEnded.orphaned (h : RecordsEnded n s b) (i : SubId) (hlive : Live (s.record i))
    (ho : (s.record i).owner = some n) (hp : (s.record i).persist = true) :
    Offered s.seq.fn ⟨(s.record i).readers.drop n, .subOrphaned, BitVec.ofNat 8 i.val, BitVec.ofNat 16 n.val⟩
      s b := by
  obtain ⟨l, htold, hneed, -⟩ := h.told
  have hevents : endingEvents n s.seq.state i (readerless n (sliceOf s i)) =
      [orphanedOf n i (readerless n (sliceOf s i)).record] := by
    have hfree : endsFree n s.seq.state (s.record i) = false := by simp [endsFree, hp]
    unfold endingEvents
    rw [endsFree_turn, hfree, if_neg (by decide), if_pos ⟨ho, hp, hlive⟩]
  have hmem := hneed i
  rw [hevents] at hmem
  exact Told.offered htold (hmem (List.mem_cons_self ..))

/-- The turn of a record that becomes FREE raises its SUB_ENDED (R14). -/
theorem RecordsEnded.ended (h : RecordsEnded n s b) (i : SubId)
    (hfree : endsFree n s.seq.state (s.record i) = true) :
    Offered s.seq.fn { subEndedOf i (s.record i) with audience := (audienceOf (s.record i)).drop n } s b := by
  obtain ⟨l, htold, hneed, -⟩ := h.told
  have ho : (s.record i).owner = some n := by
    simp only [endsFree, Bool.and_eq_true, decide_eq_true_eq] at hfree
    exact hfree.1.1
  have hend : subEndedOf i { (readerless n (sliceOf s i)).record with owner := none } =
      { subEndedOf i (s.record i) with audience := (audienceOf (s.record i)).drop n } :=
    subEndedOf_without (if_pos ho).symm rfl rfl
  have hevents : endingEvents n s.seq.state i (readerless n (sliceOf s i)) =
      [{ subEndedOf i (s.record i) with audience := (audienceOf (s.record i)).drop n }] := by
    unfold endingEvents
    rw [endsFree_turn, if_pos hfree]
    exact congrArg (fun a => [a]) hend
  have hmem := hneed i
  rw [hevents] at hmem
  exact Told.offered htold (hmem (List.mem_cons_self ..))

theorem RecordsEnded.record (h : RecordsEnded n s b) (i : SubId) :
    b.record i = (endingSlice n s.seq.state i (readerless n (sliceOf s i))).record :=
  congrArg Slice.record (h.slice i)

theorem freedExits_eq {c : State} {l : LineNo} (leaves : SubId → Bool)
    (h : ∀ i, (boundInAlarm (s.watch i) l && leaves i) =
      (boundInAlarm (s.watch i) l && decide ((c.record i).state = .free))) :
    freedExits l s c = exitIds l leaves s :=
  List.filter_congr fun i _ => (h i).symm

/-- The lines after SUBT's share alone are those that the session end of port n finds (R120). -/
theorem RecordsEnded.found {c : State} (h : RecordsEnded n s b)
    (hexits : ∀ l, freedExits l s c = turnExits n l s)
    (hclosed : s.seq.state ≠ .stopped → ∀ l, turnExits n l s = [])
    (hline : ∀ l, c.line l = b.line l) (halarms : ∀ l, c.alarms l = b.alarms l) (l : LineNo) :
    c.line l = lineFound l s c ∧
    (freedExits l s c ≠ [] → Releasable (c.alarms l) (s.line l) →
      ∃ i, i ∈ freedExits l s c ∧
        (s.seq.state = .stopped → releasingExit (s.alarms l) (freedExits l s c) = some i) ∧
        Offered s.seq.fn (releasedByExit l i) s b) := by
  obtain ⟨k, htold, -, hlines⟩ := h.told
  obtain ⟨hquiet, hstopped⟩ := hlines l
  rw [lineFound, hexits, hline, halarms]
  by_cases hst : s.seq.state = .stopped
  · obtain ⟨hfollow, hreleased⟩ := hstopped hst
    refine ⟨hfollow, fun hne hrel => ?_⟩
    obtain ⟨i, hi, hmem⟩ := hreleased hne hrel
    exact ⟨i, List.mem_of_find?_eq_some hi, fun _ => hi, Told.offered htold hmem⟩
  · have hnone := hclosed hst l
    rw [hquiet hst, hnone]
    exact ⟨(if_neg fun h => h.1 rfl).symm, fun hne => absurd rfl hne⟩

/-- Outside STOPPED no record in alarm becomes FREE at its turn (R24). -/
theorem turnExits_nil (hw : WindowLaw s) (hst : s.seq.state ≠ .stopped) (l : LineNo) : turnExits n l s = [] := by
  refine List.filter_eq_nil_iff.mpr fun i _ hi => ?_
  rw [Bool.and_eq_true] at hi
  obtain ⟨halarm, hfree⟩ := hi
  have hstaged : (s.record i).state = .staged := by
    simp only [endsFree, Bool.and_eq_true, Bool.or_eq_true, decide_eq_true_eq] at hfree
    exact hfree.2.resolve_right fun h => hst h.2
  rcases (sliceLaw_of_windowLaw hw i).state_of_alarm halarm with h | h <;> cases h.symm.trans hstaged

/-- The vote goes without a return to STOPPED. -/
theorem RecordsEnded.voteLeft_stays (h : RecordsEnded n s b) (hw : WindowLaw s) (hno : ¬ Returns n s.seq)
    (hchanges : Changes s (b.withSeq (seqWithout n b.seq))) :
    VoteLeft n s (b.withSeq (seqWithout n b.seq)) := by
  have hq : s.seq.state = .stopped ↔ seqAfterEnd n s.seq = .stopped := seqAfterEnd_stopped hno
  have hlaw (i : SubId) : SliceLaw (sliceOf s i) := sliceLaw_of_windowLaw hw i
  have hslice (i : SubId) : sliceOf b i = endSlice n s.seq.state (seqAfterEnd n s.seq) (sliceOf s i) :=
    (h.slice i).trans (endingSlice_eq (hlaw i) hq)
  have hrecord (i : SubId) : b.record i = recordAfterEnd n s.seq.state (seqAfterEnd n s.seq) (s.record i) :=
    congrArg Slice.record (hslice i)
  have hexits (l : LineNo) : freedExits l s b = turnExits n l s := freedExits_eq _ fun i => by
    rw [hrecord i]
    exact exit_of_turn (hlaw i) hq
  have hfound := h.found (c := b) hexits (turnExits_nil hw) (fun _ => rfl) fun _ => rfl
  obtain ⟨k, htold, -, -⟩ := id h.told
  have hended (i : SubId) (hne : (s.record i).state ≠ .free) (hfree : (b.record i).state = .free) := h.ended i <| by
    rw [hrecord i] at hfree
    exact endsFree_of_freed (x := sliceOf s i) hq hne hfree
  have hstays : ¬ (s.seq.state = .starting ∧ seqAfterEnd n s.seq = .stopped) := hno
  have hnever : ¬ (s.seq.state ≠ .stopped ∧ seqAfterEnd n s.seq = .stopped) := fun ⟨hne, h⟩ => hne (hq.mpr h)
  have hbseq := h.seq
  have hresumes (t : State) (ht : t.seq.state = seqAfterEnd n s.seq) : ¬ StandaloneResumes s t :=
    fun ⟨h1, h2, _⟩ => hno ⟨h1, ht.symm.trans h2⟩
  have hc (c : State) (hb : c = b.withSeq (seqWithout n s.seq)) (hchanges : Changes s c) : VoteLeft n s c := by
    subst hb
    have hstate : (b.withSeq (seqWithout n s.seq)).seq.state = seqAfterEnd n s.seq := rfl
    exact {
      changes := hchanges
      told := ⟨k, htold.hpc, htold.queues⟩
      state := rfl
      votes := rfl
      haltCause := rfl
      sequencer := by
        rw [hstate, if_neg hstays]
        exact ⟨rfl, rfl, rfl, rfl, rfl, rfl⟩
      fn := rfl
      timing := ⟨rfl, rfl, rfl, rfl⟩
      places := rfl
      idle := fun _ => ⟨rfl, h.routed, h.refOk, .inl h.conv⟩
      served := fun hr => absurd hr (hresumes _ rfl)
      slice := hslice
      orphaned := h.orphaned
      ended := hended
      profile := fun p => by
        rw [hstate, if_neg hnever]
        exact congrArg (·[p]) h.profiles
      line := fun l => (hfound l).1
      released := fun l => (hfound l).2
      modes := h.modes
      refin := h.refin
      resetting := h.resetting
      freeCount := h.freeCount
      pending := h.pending }
  exact hc _ (by rw [hbseq]) hchanges

end

end Sys2Proof.Machine
end

section
/-! SUPPORT. The return from STARTING to STOPPED at a session end (R30, R34, R35). -/

namespace Sys2Proof.Machine

open Sys2Proof.Safety

section
variable {n : Port} {s b : State}

theorem LineLaws.after {t : State} (h : LineLaws s) (hst : Changes s t) : LineLaws t := by
  obtain ⟨halarm, hwindow, htrip⟩ := h
  exact ⟨Changes.keep alarmLaw_kept hst halarm, Changes.keep windowLaw_kept hst hwindow,
    Changes.keep tripLaw_kept hst htrip⟩

theorem LineLaws.withSeq (q : Seq) (h : LineLaws b) : LineLaws (b.withSeq q) := h

/-- A record that becomes FREE behind its turn raises its SUB_ENDED then (R14). -/
theorem subEndedOf_turn (h : RecordsEnded n s b) {i : SubId} (hfree : endsFree n s.seq.state (s.record i) = false) :
    subEndedOf i (b.record i) =
      { subEndedOf i (s.record i) with audience := (audienceOf (s.record i)).drop n } := by
  obtain ⟨howner, hreaders, hsequence, -, -⟩ :=
    endingSlice_kept (i := i) (x := readerless n (sliceOf s i)) ((endsFree_turn i).trans hfree)
  rw [← h.record i] at howner hreaders hsequence
  exact subEndedOf_without howner hreaders hsequence

/-- The entry to STOPPED of b with another run vote, told of b itself. -/
structure EntryFrom (b c : State) : Prop where
  told : ∃ k, Told b.seq.fn k b c
  slice : ∀ i, sliceOf c i = closedSlice i (sliceOf b i)
  ended : ∀ i, (b.record i).state = .closing → Offered b.seq.fn (subEndedOf i (b.record i)) b c
  lines : LineLaws b → ∀ l,
    c.line l = lineAfterExits (exitIds l (fun i => decide ((b.record i).state = .closing)) b) (c.alarms l)
      (b.line l) ∧
    (exitIds l (fun i => decide ((b.record i).state = .closing)) b ≠ [] → Releasable (c.alarms l) (b.line l) →
      ∃ i, i ∈ exitIds l (fun i => decide ((b.record i).state = .closing)) b ∧
        Offered b.seq.fn (releasedByExit l i) b c)

theorem closedSlice_of_cases {b c : State} {i : SubId}
    (h : c.record i = (if (b.record i).state = .closing then {} else b.record i) ∧
      c.window i = (if (b.record i).state = .closing then none else b.window i) ∧
      c.watch i = (if (b.record i).state = .closing then none else b.watch i) ∧
      c.dlv.latest[i] = if (b.record i).state = .closing then none else b.dlv.latest[i]) :
    sliceOf c i = closedSlice i (sliceOf b i) := by
  obtain ⟨hrecord, hwindow, hwatch, hlatest⟩ := h
  rw [sliceOf, hrecord, hwindow, hwatch, hlatest]
  by_cases hst : (b.record i).state = .closing
  · have hfreed : closedSlice i (sliceOf b i) = freedSlice := if_pos hst
    rw [hfreed]
    simp only [if_pos hst]
    rfl
  · have hsame : closedSlice i (sliceOf b i) = sliceOf b i := if_neg hst
    rw [hsame]
    simp only [if_neg hst]
    rfl

theorem entryFrom_of_enters {b c : State} {q : Seq} (hfn : q.fn = b.seq.fn)
    (htold : ∃ k, Told (b.withSeq q).seq.fn k (b.withSeq q) c) (h : EntersStopped (b.withSeq q) c) :
    EntryFrom b c := by
  obtain ⟨k, htold⟩ := htold
  obtain ⟨-, -, -, -, -, -, -, -, -, -, hslices, -, hended, hfollow, -⟩ := h
  have hqfn : (b.withSeq q).seq.fn = b.seq.fn := hfn
  rw [hqfn] at htold hended hfollow
  refine ⟨⟨k, htold.hpc, htold.queues⟩, fun i => closedSlice_of_cases (hslices i), hended, fun hlaws l => ?_⟩
  obtain ⟨⟨hlines, -⟩, hreleased⟩ := hfollow (LineLaws.withSeq q hlaws)
  exact ⟨(hlines l).2, hreleased l⟩

theorem SliceLaw.readerless {x : Slice} (h : SliceLaw x) : SliceLaw (readerless n x) := by
  obtain ⟨hwindow, hclosing, hunwatched⟩ := h
  exact ⟨hwindow, hclosing, hunwatched⟩

/-- A reader that has gone before makes no difference to the state of a record after the session end. -/
theorem recordAfterEnd_readerless (q q' : SeqState) (x : Slice) :
    (recordAfterEnd n q q' (readerless n x).record).state = (recordAfterEnd n q q' x.record).state := by
  obtain ⟨r, win, wat, lat⟩ := x
  cases hst : r.state with
  | free => simp [recordAfterEnd, readerless, hst]
  | staged => by_cases h : r.owner = some n ∧ r.persist = false <;> simp [recordAfterEnd, readerless, hst, h]
  | active =>
    by_cases h : r.owner = some n ∧ r.persist = false
    · by_cases hq : q' = .stopped <;> simp [recordAfterEnd, readerless, hst, h, hq]
    · simp [recordAfterEnd, readerless, hst, h]
  | closing => by_cases h : q ≠ .stopped ∧ q' = .stopped <;> simp [recordAfterEnd, readerless, hst, h]

/-- The records, events and lines of a return to STOPPED. -/
structure Returned (n : Port) (s c : State) : Prop where
  told : ∃ l, Told s.seq.fn l s c
  slice : ∀ i, sliceOf c i = endSlice n s.seq.state .stopped (sliceOf s i)
  orphaned : ∀ i, Live (s.record i) → (s.record i).owner = some n → (s.record i).persist = true →
    Offered s.seq.fn ⟨(s.record i).readers.drop n, .subOrphaned, BitVec.ofNat 8 i.val, BitVec.ofNat 16 n.val⟩ s c
  ended : ∀ i, (s.record i).state ≠ .free → (c.record i).state = .free →
    Offered s.seq.fn { subEndedOf i (s.record i) with audience := (audienceOf (s.record i)).drop n } s c
  line : ∀ l, c.line l = lineFound l s c
  released : ∀ l, freedExits l s c ≠ [] → Releasable (c.alarms l) (s.line l) →
    ∃ i, i ∈ freedExits l s c ∧ Offered s.seq.fn (releasedByExit l i) s c

theorem RecordsEnded.returned {c : State} (h : RecordsEnded n s b) (hlaws : LineLaws s)
    (hopen : s.seq.state ≠ .stopped) (he : EntryFrom b c) : Returned n s c := by
  have hlaw (i : SubId) : SliceLaw (sliceOf s i) := sliceLaw_of_windowLaw hlaws.2.1 i
  obtain ⟨k, htold, -, hlines⟩ := id h.told
  obtain ⟨⟨k', htold'⟩, hclosed, hended, hentered⟩ := he
  have hfn : b.seq.fn = s.seq.fn := congrArg Seq.fn h.seq
  rw [hfn] at htold' hended hentered
  have hentered := hentered (LineLaws.after hlaws h.changes)
  have hquiet (l : LineNo) : b.line l = s.line l := (hlines l).1 hopen
  have hslice (i : SubId) : sliceOf c i = endSlice n s.seq.state .stopped (sliceOf s i) := by
    rw [hclosed, h.slice i]
    exact closedSlice_eq (hlaw i) hopen
  have hrecord (i : SubId) : c.record i = recordAfterEnd n s.seq.state .stopped (s.record i) :=
    congrArg Slice.record (hslice i)
  have hexits (l : LineNo) : freedExits l s c = exitIds l (fun i => decide ((b.record i).state = .closing)) b := by
    refine List.filter_congr fun i _ => ?_
    have hturn := exit_of_return (n := n) (m := l) (i := i) (SliceLaw.readerless (n := n) (hlaw i)) hopen
    rw [recordAfterEnd_readerless, ← h.slice i] at hturn
    dsimp only
    rw [hrecord i]
    exact hturn.symm
  have hended' (i : SubId) (hne : (s.record i).state ≠ .free) (hfreed : (c.record i).state = .free) :
      Offered s.seq.fn { subEndedOf i (s.record i) with audience := (audienceOf (s.record i)).drop n } s c := by
    cases hturn : endsFree n s.seq.state (s.record i) with
    | true => exact Offered.after (h.ended i hturn) htold'
    | false =>
      rw [← subEndedOf_turn h hturn]
      have hfreed' : (recordAfterEnd n s.seq.state .stopped (readerless n (sliceOf s i)).record).state = .free := by
        rw [recordAfterEnd_readerless, ← hfreed, hrecord i]
        rfl
      have hclosing := (freed_at_return (i := i) (x := readerless n (sliceOf s i)) hopen hne hturn).mp hfreed'
      rw [← h.slice i] at hclosing
      exact Offered.before htold (hended i hclosing)
  have hfound (l : LineNo) : c.line l = lineFound l s c := by
    rw [lineFound, hexits, ← hquiet l]
    exact (hentered l).1
  refine ⟨⟨k ++ k', htold.trans htold'⟩, hslice,
    fun i h1 h2 h3 => Offered.after (h.orphaned i h1 h2 h3) htold', hended', hfound, fun l hne hrel => ?_⟩
  rw [hexits] at hne ⊢
  rw [← hquiet l] at hrel
  obtain ⟨i, hi, ho⟩ := (hentered l).2 hne hrel
  exact ⟨i, hi, Offered.before htold ho⟩

/-- The vote goes with a return to STOPPED. -/
theorem RecordsEnded.voteLeft_returns {c : State} (h : RecordsEnded n s b) (hlaws : LineLaws s)
    (hr : Returns n s.seq) (hchanges : Changes s c)
    (hc : enterStopped (b.withSeq { s.seq with votes := s.seq.votes.drop n }) = c) : VoteLeft n s c := by
  obtain ⟨hstarting, hafter⟩ := hr
  have hopen : s.seq.state ≠ .stopped := fun e => by cases hstarting.symm.trans e
  have henters := enterStopped_enters (b.withSeq { s.seq with votes := s.seq.votes.drop n })
  rw [hc] at henters
  obtain ⟨htold, hvotes, hcause, henters⟩ := henters
  have hfn : b.seq.fn = s.seq.fn := congrArg Seq.fn h.seq
  have hreturned := h.returned hlaws hopen (entryFrom_of_enters (q := { s.seq with votes := s.seq.votes.drop n })
    hfn.symm htold henters)
  obtain ⟨hstate, hframe, hsync, hlist, hstarter, hfn', hconfig, hplaces, -, hrest, -, hprofiles, -, -, hbusy, hoff,
    hserve, -, hresetting, hfree, hpending⟩ := henters
  obtain ⟨hmodes, hrefin, hslots, hdivider, hsource, htimeout, -, -⟩ := hconfig
  obtain ⟨k, htoldb, -, -⟩ := id h.told
  have hresumes (hno : ¬ StandaloneResumes s c) : s.conv.power ≠ .ready ∨ s.conv.conversion ≠ none := by
    by_contra hboth
    rw [not_or, not_not, not_not] at hboth
    exact hno ⟨hstarting, hstate, hboth.1, hboth.2⟩
  have hconv : (b.withSeq { s.seq with votes := s.seq.votes.drop n }).conv = s.conv := h.conv
  have hrouted : (b.withSeq { s.seq with votes := s.seq.votes.drop n }).isel.routed = s.isel.routed := h.routed
  have hrefOk : (b.withSeq { s.seq with votes := s.seq.votes.drop n }).isel.refOk = s.isel.refOk := h.refOk
  have hxrefin : (b.withSeq { s.seq with votes := s.seq.votes.drop n }).isel.refin = s.isel.refin := h.refin
  have hprofile (p : ProfileNo) : (b.withSeq { s.seq with votes := s.seq.votes.drop n }).profile p = s.profile p :=
    congrArg (·[p]) h.profiles
  rw [hconv, hrouted, hrefOk] at hbusy hoff
  rw [hconv] at hserve
  simp only [hprofile] at hprofiles
  exact {
    changes := hchanges
    told := hreturned.told
    state := hstate.trans hafter.symm
    votes := hvotes
    haltCause := by
      rw [if_neg fun h => by cases hstarting.symm.trans h.1]
      exact hcause
    sequencer := by
      rw [if_pos ⟨hstarting, hstate⟩]
      exact ⟨hframe, hsync, hstarter, hlist, hrest⟩
    fn := hfn'
    timing := ⟨hslots, hdivider, hsource, htimeout⟩
    places := hplaces
    idle := fun hidle => by
      by_cases hresume : StandaloneResumes s c
      · obtain ⟨-, -, hready, hnone⟩ := id hresume
        have hempty : s.seq.spots = [] := hidle.resolve_left fun hno => hno hresume
        obtain ⟨hoffConv, hr, hf, hs⟩ := hoff hready hnone hempty
        exact ⟨hs.trans hempty.symm, hr, hf, .inr ⟨hresume, hempty, hoffConv⟩⟩
      · obtain ⟨hk, hr, hf, hs⟩ := hbusy (hresumes hresume)
        exact ⟨hs, hr, hf, .inl hk⟩
    served := fun hresume e he hw => by
      obtain ⟨-, -, hready, hnone⟩ := hresume
      obtain ⟨⟨hto, hflag, hbegun, hoffered⟩, hspots⟩ := hserve hready hnone e he hw
      rw [hxrefin] at hflag hbegun hoffered
      rw [hrefOk] at hoffered
      rw [hconv] at hbegun
      refine ⟨⟨hto, hflag, hbegun, fun a ha => ?_⟩, hspots.trans (standaloneBegun_spots e.input rfl)⟩
      exact Offered.before (t := b) htoldb (hoffered a ha)
    slice := hstate.symm ▸ hreturned.slice
    orphaned := hreturned.orphaned
    ended := hreturned.ended
    profile := fun p => (hprofiles p).trans (if_pos ⟨hopen, hstate⟩).symm
    line := hreturned.line
    released := fun l hne hrel => by
      obtain ⟨i, hi, ho⟩ := hreturned.released l hne hrel
      exact ⟨i, hi, fun hst => absurd hst hopen, ho⟩
    modes := fun x => ⟨(hmodes x).1.trans (h.modes x).1, (hmodes x).2.trans (h.modes x).2⟩
    refin := hrefin.trans h.refin
    resetting := hresetting.trans h.resetting
    freeCount := hfree.trans h.freeCount
    pending := hpending.trans h.pending }

end

/-- The shares of SUBT and of the run vote. -/
theorem voteGone_left (n : Port) {s : State} (hlaws : LineLaws s) : VoteLeft n s (voteGone n (subSessionEnd n s)) := by
  have hended := subSessionEnd_ended n hlaws
  generalize subSessionEnd n s = b at *
  have hchanges : Changes s (voteGone n b) := by
    refine hended.changes.trans ?_
    unfold voteGone
    split
    · exact dropVote_changes n .sessionEnd b
    · exact .refl
  obtain ⟨hno, heq⟩ | ⟨hr, heq⟩ := voteGone_cases n b
  · rw [heq] at hchanges ⊢
    exact hended.voteLeft_stays hlaws.2.1 (hended.seq ▸ hno) hchanges
  · exact hended.voteLeft_returns hlaws (hended.seq ▸ hr) hchanges (by rw [heq, hended.seq])

end Sys2Proof.Machine
end

section
/-! SUPPORT. The shares of the spot queue, of the profiles and of the trip lines at a session end (R78, R97, R126). -/

namespace Sys2Proof.Machine

open Sys2Proof.Safety

/-! ### Trip lines (R126) -/

/-- The TRIP_RELEASED of line l with cause SESSION_END (R123, R126). -/
def releasedAtEnd (n : Port) (l : LineNo) : Announced :=
  ⟨everyPort, .tripReleased, BitVec.ofNat 8 l.val, BitVec.ofNat 16 (512 + n.val)⟩

theorem causeDetail_sessionEnd (n : Port) :
    causeDetail causeSessionEnd (portByte n) = BitVec.ofNat 16 (512 + n.val) := by
  revert n; decide

/-- Between s and t the trip lines of this list have taken the session end of port n. -/
structure LinesEnded (n : Port) (ls : List LineNo) (s t : State) : Prop extends ReportKept s t where
  line : ∀ m, t.line m = if m ∈ ls then lineAfterEnd n (s.alarms m) (s.line m) else s.line m
  told : ∃ k, Told s.seq.fn k s t ∧ ∀ m ∈ ls, (s.line m).arming.has n = true →
    Releasable (s.alarms m) (withoutPort n (s.line m)) → releasedAtEnd n m ∈ k

section
variable {n : Port} {l : LineNo} {s : State}

/-- A turn that leaves the line with x and makes no report. -/
theorem linesEnded_quiet {t : State} (hkept : ReportKept s t) (hqueues : t.dlv.queues = s.dlv.queues)
    (hline : ∀ m, t.line m = if m = l then lineAfterEnd n (s.alarms l) (s.line l) else s.line m)
    (hnever : (s.line l).arming.has n = true → ¬ Releasable (s.alarms l) (withoutPort n (s.line l))) :
    LinesEnded n [l] s t := by
  refine ⟨hkept, fun m => ?_, [], .of_queues hkept.hpc hqueues, fun m hm hin hrel => ?_⟩
  · rw [hline m]
    by_cases hm : m = l
    · subst hm
      rw [if_pos rfl, if_pos (List.mem_singleton.mpr rfl)]
    · rw [if_neg hm, if_neg fun h => hm (List.mem_singleton.mp h)]
  · obtain rfl := List.mem_singleton.mp hm
    exact absurd hrel (hnever hin)

theorem line_unchanged {x : Line} (h : x = s.line l) (m : LineNo) : s.line m = if m = l then x else s.line m := by
  by_cases hm : m = l
  · rw [if_pos hm, h, hm]
  · rw [if_neg hm]

/-- A judgement of the release condition at a session end, in exact form (R122, R126). -/
theorem judgeRelease_sessionEnd (x : Line) :
    judgeRelease l causeSessionEnd (portByte n) (updateLine l x s) =
      if Releasable (s.alarms l) x then
        afterEvents [releasedAtEnd n l]
          (updateLine l { x with state := .armed, ack := PortSet.empty } (updateLine l x s))
      else updateLine l x s := by
  have hline : (updateLine l x s).line l = x := by rw [updateLine_line, if_pos rfl]
  have hholds := releaseHolds_iff l (updateLine l x s)
  rw [hline] at hholds
  have hholds : releaseHolds l (updateLine l x s) = true ↔ Releasable (s.alarms l) x := hholds
  by_cases hrel : Releasable (s.alarms l) x
  · rw [judgeRelease, if_pos (hholds.mpr hrel), if_pos hrel, releaseLine_eq, causeDetail_sessionEnd, hline]
    rfl
  · rw [judgeRelease, if_neg (mt hholds.mp hrel), if_neg hrel]

theorem lineAfterEnd_armed {a : List SubId} {x : Line} (hn : x.arming.has n = true) (hst : x.state = .armed) :
    lineAfterEnd n a x = if (withoutPort n x).arming = ⟨false, false, false⟩ then
      { withoutPort n x with state := .disarmed } else withoutPort n x := by
  simp [lineAfterEnd, hn, hst]

theorem lineAfterEnd_tripped {a : List SubId} {x : Line} (hn : x.arming.has n = true) (hst : x.state = .tripped) :
    lineAfterEnd n a x = if Releasable a (withoutPort n x) then
      { withoutPort n x with state := .armed, ack := ⟨false, false, false⟩ } else withoutPort n x := by
  have hstate : (withoutPort n x).state = .tripped := hst
  simp [lineAfterEnd, Releasable, hn, hst, hstate]

/-- The turn of a TRIPPED line. -/
theorem judged_ended (hn : (s.line l).arming.has n = true) (hst : (s.line l).state = .tripped) :
    LinesEnded n [l] s (judgeRelease l causeSessionEnd (portByte n) (updateLine l (withoutPort n (s.line l)) s)) := by
  have hafter := lineAfterEnd_tripped (n := n) (a := s.alarms l) hn hst
  rw [judgeRelease_sessionEnd]
  by_cases hrel : Releasable (s.alarms l) (withoutPort n (s.line l))
  · rw [if_pos hrel] at hafter
    rw [if_pos hrel]
    refine ⟨((updateLine_kept l _ s).trans (updateLine_kept l _ _)).trans (afterEvents_kept _ _), fun m => ?_,
      [releasedAtEnd n l], Told.after (s := s) (t := updateLine l _ (updateLine l _ s)) rfl rfl, fun m hm _ _ => ?_⟩
    · rw [afterEvents_line, updateLine_line, updateLine_line]
      by_cases hm : m = l
      · subst hm
        rw [if_pos rfl, if_pos (List.mem_singleton.mpr rfl), hafter]
        rfl
      · rw [if_neg hm, if_neg hm, if_neg fun h => hm (List.mem_singleton.mp h)]
    · rw [List.mem_singleton.mp hm]
      exact List.mem_singleton.mpr rfl
  · rw [if_neg hrel] at hafter
    rw [if_neg hrel]
    refine linesEnded_quiet (updateLine_kept l _ s) rfl (fun m => ?_) fun _ => hrel
    rw [updateLine_line, hafter]

theorem tripLineSessionEnd_ended : LinesEnded n [l] s (tripLineSessionEnd n l s) := by
  unfold tripLineSessionEnd
  dsimp only
  split
  next hn =>
    exact linesEnded_quiet (.refl s) rfl (line_unchanged (if_pos hn)) fun hin => by cases hn.symm.trans hin
  next hn =>
    have hn : (s.line l).arming.has n = true := Bool.not_eq_false _ ▸ hn
    split
    next hst =>
      refine linesEnded_quiet (.refl s) rfl (line_unchanged ?_) fun _ ⟨hrel, _⟩ => by cases hst.symm.trans hrel
      simp [lineAfterEnd, hst]
    next hst =>
      refine linesEnded_quiet (updateLine_kept l _ s) rfl (fun m => ?_)
        fun _ ⟨hrel, _⟩ => by cases hst.symm.trans hrel
      have harming : (withoutPort n (s.line l)).arming = (s.line l).arming.drop n := rfl
      rw [leaveArming, updateLine_line, lineAfterEnd_armed hn hst, harming]
      by_cases hempty : (s.line l).arming.drop n = ⟨false, false, false⟩
      · rw [if_pos ((PortSet.isEmpty_iff _).mpr hempty), if_pos hempty]
        rfl
      · rw [if_neg fun h => hempty ((PortSet.isEmpty_iff _).mp h), if_neg hempty]
        rfl
    next hst =>
      exact judged_ended hn hst

theorem linesEnded_foldl (ls : List LineNo) (hnodup : ls.Nodup) :
    ∀ s, LinesEnded n ls s (ls.foldl (fun s t => tripLineSessionEnd n t s) s) := by
  induction ls with
  | nil => exact fun s => ⟨.refl s, fun m => rfl, [], .refl s, fun m hm => by cases hm⟩
  | cons l ls ih =>
    intro s
    obtain ⟨hnot, hrest⟩ := List.nodup_cons.mp hnodup
    have hturn : LinesEnded n [l] s (tripLineSessionEnd n l s) := tripLineSessionEnd_ended
    have htail := ih hrest (tripLineSessionEnd n l s)
    rw [List.foldl_cons]
    generalize tripLineSessionEnd n l s = u at *
    generalize ls.foldl (fun s t => tripLineSessionEnd n t s) u = t at *
    obtain ⟨hkept, hline, k, htold, hreleased⟩ := hturn
    obtain ⟨hkept', hline', k', htold', hreleased'⟩ := htail
    have hfn : u.seq.fn = s.seq.fn := congrArg Seq.fn hkept.seq
    have halarms (m : LineNo) : u.alarms m = s.alarms m := congrArg (fun w : Wtu => w.alarms[m]) hkept.wtu
    have hother (m : LineNo) (hm : m ∈ ls) : u.line m = s.line m := by
      rw [hline m, if_neg fun h => hnot ?_]
      rw [← List.mem_singleton.mp h]
      exact hm
    rw [hfn] at htold'
    refine ⟨hkept.trans hkept', fun m => ?_, k ++ k', htold.trans htold', fun m hm hin hrel => ?_⟩
    · rw [hline' m]
      by_cases hm : m ∈ ls
      · rw [if_pos hm, if_pos (List.mem_cons_of_mem l hm), halarms, hother m hm]
      · rw [if_neg hm, hline m]
        by_cases hl : m = l
        · subst hl
          rw [if_pos (List.mem_singleton.mpr rfl), if_pos List.mem_cons_self]
        · rw [if_neg fun h => hl (List.mem_singleton.mp h), if_neg fun h => (List.mem_cons.mp h).elim hl hm]
    · rcases List.mem_cons.mp hm with rfl | hm
      · exact List.mem_append_left k' (hreleased m (List.mem_singleton.mpr rfl) hin hrel)
      · refine List.mem_append_right k (hreleased' m hm ?_ ?_)
        · rw [hother m hm]
          exact hin
        · rw [halarms, hother m hm]
          exact hrel

end

end Sys2Proof.Machine
end

section
/-! SUPPORT. What a session end takes out of the blocks, all shares together (R24 to R26, R35, R78, R97, R126). -/

namespace Sys2Proof.Machine

open Sys2Proof.Safety

/-! ### The spot queue and the profiles -/

/-- The spot entries that are not of port n. -/
def spotsWithout (n : Port) (l : List SpotEntry) : List SpotEntry := l.filter fun e => decide (e.port ≠ n)

/-- The list without the SPARE entries that no spot entry of `spots` is assigned to (R78). -/
def listWithout (slot : Nat) (spots : List SpotEntry) (list : List ListEntry) : List ListEntry :=
  list.filter fun x => decide (x.origin = .planned ∨ x.slot ≤ slot ∨ ∃ y ∈ spots, y.place = .listed x.slot)

/-- The state c after the shares of the spot queue and of the profiles in the session end of port n. -/
structure QueueLeft (n : Port) (c e : State) : Prop where
  seq : e.seq = { c.seq with
    spots := spotsWithout n c.seq.spots
    list := listWithout c.seq.slot (spotsWithout n c.seq.spots) c.seq.list }
  conv : e.conv = if c.conv.power = .ready ∧ c.conv.conversion = none ∧ c.seq.state = .stopped ∧
      spotsWithout n c.seq.spots = [] then { c.conv with power := .off } else c.conv
  routed : e.isel.routed = c.isel.routed
  refOk : e.isel.refOk = c.isel.refOk
  refin : e.isel.refin = c.isel.refin
  modes : ∀ k : InputNo, (e.input k).mode = (c.input k).mode ∧ (e.input k).polarity = (c.input k).polarity
  profile : ∀ p, e.profile p = (c.profile p).forget n
  slice : ∀ i, sliceOf e i = sliceOf c i
  line : ∀ l, e.line l = c.line l
  alarms : ∀ l, e.alarms l = c.alarms l
  hpc : e.hpc = c.hpc
  queues : e.dlv.queues = c.dlv.queues
  resetting : e.resetting = c.resetting
  freeCount : e.freeCount = c.freeCount
  pending : e.pending = c.pending

theorem spotSessionEnd_eq (n : Port) (c : State) :
    spotSessionEnd n c = judgePower (spotsLeft (spotsWithout n c.seq.spots)
      (c.seq.spots.filter fun e => e.port == n)
      (c.withSeq { c.seq with list := listWithout c.seq.slot (spotsWithout n c.seq.spots) c.seq.list })) := by
  have hkept : (c.seq.spots.filter fun e => !(e.port == n)) = spotsWithout n c.seq.spots :=
    List.filter_congr fun e _ => by rw [Bool.eq_iff_iff]; simp
  rw [spotSessionEnd, removeSpots_eq, hkept, pruneList_eq]
  rfl

theorem queueLeft (n : Port) (c : State) : QueueLeft n c (profileSessionEnd n (spotSessionEnd n c)) := by
  have hprofile (p : ProfileNo) := profileSessionEnd_profile n p (spotSessionEnd n c)
  have hinput := spotsLeft_input (spotsWithout n c.seq.spots) (c.seq.spots.filter fun e => e.port == n)
    (c.withSeq { c.seq with list := listWithout c.seq.slot (spotsWithout n c.seq.spots) c.seq.list })
  unfold profileSessionEnd at *
  rw [spotSessionEnd_eq, judgePower_eq] at *
  refine ⟨rfl, ?_, rfl, rfl, rfl, fun k => ?_, hprofile, fun _ => rfl, fun _ => rfl, fun _ => rfl, rfl, rfl, rfl, rfl,
    rfl⟩
  · refine if_congr ?_ rfl rfl
    exact ⟨fun ⟨h1, h2, h3, h4⟩ => ⟨h1, h4, h2, h3⟩, fun ⟨h1, h2, h3, h4⟩ => ⟨h1, h3, h4, h2⟩⟩
  · exact (hinput k).symm ▸ ⟨rfl, rfl⟩

end Sys2Proof.Machine
end

section
/-! SUPPORT. All shares of a session end but that of the port's own controller (R165). -/

namespace Sys2Proof.Machine

open Sys2Proof.Safety

/-- The shares of the blocks in the session end of port n, in the order of R165. -/
def sharesEnded (n : Port) (s : State) : State :=
  tripSessionEnd n (profileSessionEnd n (seqSessionEnd n (subSessionEnd n s)))

/-- Between s and f every block has let go of what port n held. -/
structure SharesEnded (n : Port) (s f : State) : Prop where
  changes : Changes s f
  told : ∃ l, Told s.seq.fn l s f
  state : f.seq.state = seqAfterEnd n s.seq
  votes : f.seq.votes = s.seq.votes.drop n
  haltCause : f.seq.haltCause =
    if s.seq.state = .running ∧ f.seq.state = .halting then some ⟨n, .sessionEnd⟩ else s.seq.haltCause
  sequencer : if s.seq.state = .starting ∧ f.seq.state = .stopped then
      f.seq.frameTimer = none ∧ f.seq.syncTimer = none ∧ f.seq.starter = none ∧ f.seq.list = [] ∧
      f.seq.sync = (if s.seq.source = .external then .waiting else .off)
    else
      f.seq.frameTimer = s.seq.frameTimer ∧ f.seq.syncTimer = s.seq.syncTimer ∧ f.seq.starter = s.seq.starter ∧
      f.seq.sync = s.seq.sync ∧ f.seq.list = listWithout s.seq.slot (spotsWithout n s.seq.spots) s.seq.list
  fn : f.seq.fn = s.seq.fn
  timing : f.seq.slots = s.seq.slots ∧ f.seq.divider = s.seq.divider ∧ f.seq.source = s.seq.source ∧
    f.seq.syncTimeout = s.seq.syncTimeout
  places : f.seq.spots.map unplaced = (spotsWithout n s.seq.spots).map unplaced
  idle : ¬ StandaloneResumes s f ∨ s.seq.spots = [] →
    f.seq.spots = spotsWithout n s.seq.spots ∧ f.isel.routed = s.isel.routed ∧ f.isel.refOk = s.isel.refOk ∧
    f.conv = if s.conv.power = .ready ∧ s.conv.conversion = none ∧ f.seq.state = .stopped ∧ f.seq.spots = []
      then { s.conv with power := .off } else s.conv
  served : StandaloneResumes s f → ∀ e ∈ s.seq.spots.head?, e.place = .waiting →
    StandaloneStarts everyPort e.input s f ∧ f.seq.spots = spotsWithout n (standaloneBegun e.input s).seq.spots
  slice : ∀ i, sliceOf f i = endSlice n s.seq.state f.seq.state (sliceOf s i)
  orphaned : ∀ i, Live (s.record i) → (s.record i).owner = some n → (s.record i).persist = true →
    Offered s.seq.fn ⟨(s.record i).readers.drop n, .subOrphaned, BitVec.ofNat 8 i.val, BitVec.ofNat 16 n.val⟩ s f
  ended : ∀ i, (s.record i).state ≠ .free → (f.record i).state = .free →
    Offered s.seq.fn { subEndedOf i (s.record i) with audience := (audienceOf (s.record i)).drop n } s f
  profile : ∀ p, f.profile p =
    if s.seq.state ≠ .stopped ∧ f.seq.state = .stopped then activated (s.profile p)
    else if (s.profile p).staged.map StagedValue.port = some n then { s.profile p with staged := none }
    else s.profile p
  line : ∀ l, f.line l = lineAfterEnd n (f.alarms l) (lineFound l s f)
  releasedAtEnd : ∀ l, (lineFound l s f).arming.has n = true →
    Releasable (f.alarms l) (withoutPort n (lineFound l s f)) → Offered s.seq.fn (releasedAtEnd n l) s f
  released : ∀ l, freedExits l s f ≠ [] → Releasable (f.alarms l) (s.line l) →
    ∃ i, i ∈ freedExits l s f ∧
      (s.seq.state = .stopped → releasingExit (s.alarms l) (freedExits l s f) = some i) ∧
      Offered s.seq.fn (releasedByExit l i) s f
  modes : ∀ k : InputNo, (f.input k).mode = (s.input k).mode ∧ (f.input k).polarity = (s.input k).polarity
  refin : f.isel.refin = s.isel.refin
  resetting : f.resetting = s.resetting
  freeCount : f.freeCount = s.freeCount
  pending : f.pending = s.pending

/-- Which entries are of port n does not rest on their places. -/
theorem spotsWithout_unplaced {n : Port} {l k : List SpotEntry} (h : l.map unplaced = k.map unplaced) :
    (spotsWithout n l).map unplaced = (spotsWithout n k).map unplaced := by
  have hcomm (l : List SpotEntry) :
      (spotsWithout n l).map unplaced = (l.map unplaced).filter fun e => decide (e.port ≠ n) := by
    rw [List.filter_map]
    rfl
  rw [hcomm, hcomm, h]

theorem Profile.forget_eq (n : Port) (p : Profile) :
    p.forget n = if p.staged.map StagedValue.port = some n then { p with staged := none } else p := by
  unfold Profile.forget
  cases p.staged with
  | none => rfl
  | some v => by_cases hv : v.port = n <;> simp [hv]

theorem activated_forget (n : Port) (p : Profile) : (activated p).forget n = activated p := by
  rw [Profile.forget_eq, if_neg]
  unfold activated
  cases hs : p.staged <;> simp [hs]

section
variable {n : Port} {s c e f : State}

theorem freedExits_congr (l : LineNo) (h : ∀ i, (f.record i).state = (c.record i).state) :
    freedExits l s f = freedExits l s c := by
  unfold freedExits
  simp only [h]

theorem sharesEnded_of (hv : VoteLeft n s c) (hq : QueueLeft n c e) (hl : LinesEnded n lineNos e f)
    (hchanges : Changes s f) : SharesEnded n s f := by
  have hseq : f.seq = { c.seq with
      spots := spotsWithout n c.seq.spots
      list := listWithout c.seq.slot (spotsWithout n c.seq.spots) c.seq.list } := hl.seq.trans hq.seq
  have hstate : f.seq.state = c.seq.state := by rw [hseq]
  have hspots : f.seq.spots = spotsWithout n c.seq.spots := by rw [hseq]
  have hlist : f.seq.list = listWithout c.seq.slot (spotsWithout n c.seq.spots) c.seq.list := by rw [hseq]
  have hresumes : StandaloneResumes s f ↔ StandaloneResumes s c := by
    unfold StandaloneResumes
    rw [hstate]
  have hslice (i : SubId) : sliceOf f i = sliceOf c i := by
    rw [← hq.slice i]
    simp only [sliceOf, State.record, State.window, State.watch, hl.subt, hl.asu, hl.wtu, hl.latest]
  have hrecord (i : SubId) : f.record i = c.record i := congrArg Slice.record (hslice i)
  have halarms (l : LineNo) : f.alarms l = c.alarms l :=
    (congrArg (fun w : Wtu => w.alarms[l]) hl.wtu).trans (hq.alarms l)
  have hexits (l : LineNo) : freedExits l s f = freedExits l s c :=
    freedExits_congr l fun i => congrArg SubRecord.state (hrecord i)
  have hfound (l : LineNo) : lineFound l s f = c.line l := by
    rw [hv.line l, lineFound, lineFound, hexits, halarms]
  have hfn : e.seq.fn = s.seq.fn := (congrArg Seq.fn hq.seq).trans hv.fn
  obtain ⟨k, htoldc⟩ := hv.told
  obtain ⟨k', htolde, hends⟩ := hl.told
  rw [hfn] at htolde
  have htoldf : Told s.seq.fn k' c f := Told.congr_left htolde hq.hpc hq.queues
  have hafter {a : Announced} (h : Offered s.seq.fn a s c) : Offered s.seq.fn a s f := Offered.after h htoldf
  exact {
    changes := hchanges
    told := ⟨k ++ k', htoldc.trans htoldf⟩
    state := hstate.trans hv.state
    votes := by rw [hseq]; exact hv.votes
    haltCause := by rw [hstate, hseq]; exact hv.haltCause
    sequencer := by
      have hsequencer := hv.sequencer
      rw [hstate]
      by_cases hback : s.seq.state = .starting ∧ c.seq.state = .stopped
      · rw [if_pos hback] at hsequencer ⊢
        obtain ⟨h1, h2, h3, h4, h5⟩ := hsequencer
        rw [hlist, h4, hseq]
        exact ⟨h1, h2, h3, rfl, h5⟩
      · rw [if_neg hback] at hsequencer ⊢
        obtain ⟨h1, h2, h3, h4, h5, h6⟩ := hsequencer
        obtain ⟨hs, -⟩ := hv.idle (.inl fun h => hback ⟨h.1, h.2.1⟩)
        rw [hlist, h5, h6, hs, hseq]
        exact ⟨h1, h2, h3, h4, rfl⟩
    fn := by rw [hseq]; exact hv.fn
    timing := by rw [hseq]; exact hv.timing
    places := by rw [hspots]; exact spotsWithout_unplaced hv.places
    idle := fun hidle => by
      rw [hresumes] at hidle
      obtain ⟨hs, hr, hf, hc⟩ := hv.idle hidle
      have hconv := hl.conv.trans hq.conv
      rw [← hstate, ← hspots] at hconv
      refine ⟨hspots.trans (by rw [hs]), hl.routed.trans (hq.routed.trans hr),
        hl.refOk.trans (hq.refOk.trans hf), ?_⟩
      rcases hc with hc | ⟨hresume, hempty, hc⟩
      · rw [hconv, hc]
      · obtain ⟨-, hstopped, hready, hnone⟩ := hresume
        have hnever : ¬ (c.conv.power = .ready ∧ c.conv.conversion = none ∧ f.seq.state = .stopped ∧
            f.seq.spots = []) := fun h => by
          rw [hc] at h
          cases h.1
        have hnoSpots : f.seq.spots = [] := by rw [hspots, hs, hempty, spotsWithout, List.filter_nil]
        rw [hconv, if_neg hnever, if_pos ⟨hready, hnone, hstate.trans hstopped, hnoSpots⟩, hc]
    served := fun hresume e he hw => by
      rw [hresumes] at hresume
      obtain ⟨⟨hto, hflag, hbegun, hoffered⟩, hs⟩ := hv.served hresume e he hw
      have hnever : ¬ (c.conv.power = .ready ∧ c.conv.conversion = none ∧ c.seq.state = .stopped ∧
          spotsWithout n c.seq.spots = []) := fun h => by
        rw [hbegun] at h
        cases h.1
      have hconv := hl.conv.trans hq.conv
      rw [if_neg hnever] at hconv
      exact ⟨⟨hl.routed.trans (hq.routed.trans hto), hl.refOk.trans (hq.refOk.trans hflag), hconv.trans hbegun,
        fun a ha => hafter (hoffered a ha)⟩, hspots.trans (by rw [hs])⟩
    slice := fun i => by rw [hslice, hstate]; exact hv.slice i
    orphaned := fun i h1 h2 h3 => hafter (hv.orphaned i h1 h2 h3)
    ended := fun i h1 h2 => hafter (hv.ended i h1 (hrecord i ▸ h2))
    profile := fun p => by
      have hp : f.profile p = (c.profile p).forget n :=
        (congrArg (fun a : Asu => a.profiles[p]) hl.asu).trans (hq.profile p)
      rw [hp, hv.profile p, hstate]
      by_cases hstopped : s.seq.state ≠ .stopped ∧ c.seq.state = .stopped
      · rw [if_pos hstopped, if_pos hstopped, activated_forget]
      · rw [if_neg hstopped, if_neg hstopped, Profile.forget_eq]
    line := fun l => by
      have hmem : l ∈ lineNos := List.mem_finRange l
      rw [hl.line l, if_pos hmem, hq.alarms, hq.line, hfound, halarms]
    releasedAtEnd := fun l hin hrel => by
      rw [hfound] at hin hrel
      rw [halarms] at hrel
      refine Offered.before htoldc (Told.offered htoldf (hends l (List.mem_finRange l) ?_ ?_))
      · rw [hq.line]
        exact hin
      · rw [hq.alarms, hq.line]
        exact hrel
    released := fun l hne hrel => by
      rw [hexits] at hne ⊢
      rw [halarms] at hrel
      obtain ⟨i, hi, hfirst, ho⟩ := hv.released l hne hrel
      exact ⟨i, hi, hfirst, hafter ho⟩
    modes := fun x => by
      obtain ⟨h1, h2⟩ := hl.modes x
      obtain ⟨h3, h4⟩ := hq.modes x
      obtain ⟨h5, h6⟩ := hv.modes x
      exact ⟨h1.trans (h3.trans h5), h2.trans (h4.trans h6)⟩
    refin := hl.refin.trans (hq.refin.trans hv.refin)
    resetting := hl.resetting.trans (hq.resetting.trans hv.resetting)
    freeCount := hl.freeCount.trans (hq.freeCount.trans hv.freeCount)
    pending := hl.pending.trans (hq.pending.trans hv.pending) }

end

theorem sharesEnded_ended (n : Port) {s : State} (hlaws : LineLaws s) : SharesEnded n s (sharesEnded n s) :=
  sharesEnded_of (voteGone_left n hlaws) (queueLeft n _) (linesEnded_foldl lineNos (List.nodup_finRange 4) _)
    (sessionShares_changes n s)

end Sys2Proof.Machine
end

section
/-! SUPPORT. A session end as the other ports see it (R165, R166). -/

namespace Sys2Proof.Machine

open Sys2Proof.Safety

/-- u is s but for the controller of port n. -/
structure OnlyPort (n : Port) (s u : State) : Prop where
  same : u = { s with hpc := u.hpc }
  ports : ∀ m, m ≠ n → u.port m = s.port m

/-- Between f and t the controller and the queues of port n have been closed, and events raised. -/
structure PortClosed (n : Port) (f t : State) : Prop where
  same : t = { f with hpc := t.hpc, dlv := { f.dlv with queues := t.dlv.queues } }
  empty : t.queues n = {}
  ports : ∀ m, m ≠ n → t.port m = f.port m
  events : ∀ m, m ≠ n → ∃ l : List EventEntry,
    (t.queues m).events = l.foldl (fun q e => offerEntry e q) (f.queues m).events
  samples : ∀ m, m ≠ n → (t.queues m).samples = (f.queues m).samples ∧
    (t.queues m).sampleUnacked = (f.queues m).sampleUnacked ∧ (t.queues m).lost = (f.queues m).lost

section
variable {n : Port} {s u f t : State}

/-- What is offered to the others while port n closes reaches them without it. -/
theorem Offered.elsewhere {fn : FrameNo} {a : Announced} (ho : Offered fn a u f) (hs : OnlyPort n s u)
    (ht : PortClosed n f t) : Offered fn { a with audience := a.audience.drop n } s t := by
  intro m hm
  have hsplit : m ≠ n ∧ reaches s m a = true := by
    simp only [reaches, Bool.and_eq_true, PortSet.has_drop] at hm ⊢
    obtain ⟨⟨⟨hne, hin⟩, hatt⟩, hlets⟩ := hm
    exact ⟨by simpa using hne, ⟨hin, hatt⟩, hlets⟩
  obtain ⟨hne, hreach⟩ := hsplit
  have hport := hs.ports m hne
  have hdlv : u.dlv = s.dlv := by rw [hs.same]
  have hqueue : u.queues m = s.queues m := congrArg (fun d : Dlv => d.queues[m]) hdlv
  have hreach' : reaches u m a = true := by
    simp only [reaches, attached, hport] at hreach ⊢
    exact hreach
  obtain ⟨before, after, hq⟩ := ho m hreach'
  obtain ⟨l, hl⟩ := ht.events m hne
  refine ⟨before, after ++ l, ?_⟩
  rw [hl, hq, hqueue, List.foldl_append]
  rfl

theorem drop_drop (v : PortSet) : (v.drop n).drop n = v.drop n := by
  simp [PortSet.drop_eq]

/-! ### Records -/

/-- Record, window, watch and latest table entry of an id after a session end. -/
theorem SharesEnded.slices (h : SharesEnded n s f) (i : SubId) :
    f.record i = recordAfterEnd n s.seq.state f.seq.state (s.record i) ∧
    f.window i = (if (f.record i).state = .active then s.window i else none) ∧
    f.watch i = (if (f.record i).state = .free then none
      else if (f.record i).state = .closing then (s.watch i).map fun w => { w with frozen := true }
      else s.watch i) ∧
    f.dlv.latest[i] =
      (if (s.record i).state ≠ .free ∧ (f.record i).state = .free then none else s.dlv.latest[i]) := by
  have hrecord : f.record i = recordAfterEnd n s.seq.state f.seq.state (s.record i) := congrArg Slice.record (h.slice i)
  rw [hrecord]
  exact ⟨rfl, congrArg Slice.window (h.slice i), congrArg Slice.watch (h.slice i),
    congrArg Slice.latest (h.slice i)⟩

/-! ### Lines and alarm sets -/

/-- A frozen watch is in no alarm set (R107, R112). -/
theorem inAlarmSet_map_frozen (w : Option Watch) (l : LineNo) :
    inAlarmSet (w.map fun w => { w with frozen := true }) l = false := by
  cases w <;> rfl

/-- The alarm sets keep the ACTIVE records (R107). -/
theorem SharesEnded.alarmsKept (h : SharesEnded n s f) (hlaws : LineLaws s) (l : LineNo) :
    f.alarms l = (s.alarms l).filter fun i => decide ((f.record i).state = .active) := by
  obtain ⟨halarm, hwindow, -⟩ := hlaws
  have halarm' : AlarmLaw f := Changes.keep alarmLaw_kept h.changes halarm
  rw [halarm' l, halarm l, List.filter_filter]
  refine List.filter_congr fun i _ => ?_
  have hlaw := sliceLaw_of_windowLaw (Changes.keep windowLaw_kept h.changes hwindow) i
  obtain ⟨-, -, hwatch, -⟩ := h.slices i
  cases hst : (f.record i).state with
  | free =>
    have hnone : f.watch i = none := hlaw.unwatched (.inl hst)
    rw [hnone]
    rfl
  | staged =>
    have hnone : f.watch i = none := hlaw.unwatched (.inr hst)
    rw [hnone]
    rfl
  | active =>
    rw [hwatch, hst]
    simp
  | closing =>
    rw [hwatch, hst]
    simp only [reduceCtorEq, if_false, if_true, decide_false, Bool.false_and]
    exact inAlarmSet_map_frozen _ l

/-- A line after its turn: the port is in no arming set (R126). -/
theorem lineAfterEnd_arming {a : List SubId} {x : Line}
    (h : x.state = .disarmed → x.arming = ⟨false, false, false⟩) :
    (lineAfterEnd n a x).arming = x.arming.drop n := by
  unfold lineAfterEnd
  dsimp only
  split
  next hn => exact (drop_of_not_has hn).symm
  next hn =>
    split
    next hst =>
      rw [h hst]
      fin_cases n <;> rfl
    next => split <;> rfl
    next => split <;> rfl

theorem lineAfterExits_arming {exits a : List SubId} {x : Line} : (lineAfterExits exits a x).arming = x.arming := by
  unfold lineAfterExits
  split <;> rfl

theorem lineAfterExits_disarmed {exits a : List SubId} {x : Line} (h : (lineAfterExits exits a x).state = .disarmed) :
    x.state = .disarmed := by
  unfold lineAfterExits at h
  split at h
  · cases h
  · exact h

theorem SharesEnded.arming (h : SharesEnded n s f) (htrip : TripLaw s) (l : LineNo) :
    (f.line l).arming = (s.line l).arming.drop n := by
  obtain ⟨hlines, -⟩ := htrip
  obtain ⟨-, hdisarmed, -⟩ := hlines l
  rw [h.line l, lineFound, lineAfterEnd_arming, lineAfterExits_arming]
  rw [lineAfterExits_arming]
  exact fun hst => hdisarmed (lineAfterExits_disarmed hst)

/-! ### All clauses of a session end -/

theorem onlyPort_lineLaws (h : OnlyPort n s u) (hlaws : LineLaws s) : LineLaws u := by
  rw [h.same]
  exact hlaws

theorem standaloneStarts_elsewhere {k : InputNo} (h : StandaloneStarts everyPort k u f) (hs : OnlyPort n s u)
    (ht : PortClosed n f t) : StandaloneStarts (everyPort.drop n) k s t := by
  obtain ⟨hto, hflag, hbegun, hoffered⟩ := h
  have hoffered' (a : Announced) (ha : a ∈ referenceEvents u.isel.refOk
      (decide (2400000 ≤ u.isel.refin ∧ u.isel.refin ≤ 2600000)) k) :
      Offered u.seq.fn { a with audience := everyPort.drop n } s t :=
    Offered.elsewhere (hoffered a ha) hs ht
  obtain ⟨hsame, -⟩ := hs
  obtain ⟨htsame, -⟩ := ht
  generalize u.hpc = uh at hsame
  generalize t.hpc = th, t.dlv.queues = tq at htsame
  subst hsame htsame
  exact ⟨hto, hflag, hbegun, hoffered'⟩

/-- A session end lets go all that the port held (R24 to R26, R35, R126, R165). -/
theorem letGo_of_shares (hs : OnlyPort n s u) (h : SharesEnded n u f) (ht : PortClosed n f t) (hlaws : LineLaws s) :
    LetGo n s t := by
  have hulaws := onlyPort_lineLaws hs hlaws
  have hoffered {fn : FrameNo} {a : Announced} (ho : Offered fn a u f) := Offered.elsewhere ho hs ht
  have halarms := h.alarmsKept hulaws
  have harming := h.arming hulaws.2.2
  have hpins : PinsFollow u f :=
    pinsFollow_of_laws hulaws.2.2 (Changes.keep tripLaw_kept h.changes hulaws.2.2) h.modes
  have hslices := h.slices
  have hserved : StandaloneResumes u f → ∀ e ∈ u.seq.spots.head?, e.place = .waiting →
      StandaloneStarts (everyPort.drop n) e.input s t := fun hresume e he hw =>
    standaloneStarts_elsewhere (h.served hresume e he hw).1 hs ht
  obtain ⟨k, htold⟩ := h.told
  obtain ⟨hsame, hports⟩ := hs
  obtain ⟨htsame, hempty, htports, -, hsamples⟩ := ht
  generalize u.hpc = uh at hsame
  generalize t.hpc = th, t.dlv.queues = tq at htsame
  subst hsame htsame
  refine ⟨h.state, h.votes, h.haltCause, ?_, fun i => ?_, h.places, ⟨h.idle, fun hresume e he hw => ?_⟩,
    h.profile, fun l => ?_, hpins, h.modes, h.refin, h.timing.1, h.timing.2.1, h.timing.2.2.1, h.timing.2.2.2, hempty,
    fun m hm => ?_, h.fn, h.resetting, h.freeCount, h.pending⟩
  · have hsequencer := h.sequencer
    by_cases hback : s.seq.state = .starting ∧ f.seq.state = .stopped
    · rw [if_pos hback] at hsequencer ⊢
      exact hsequencer
    · rw [if_neg hback] at hsequencer ⊢
      obtain ⟨h1, h2, h3, h4, h5⟩ := hsequencer
      refine ⟨h1, h2, h3, h4, h5.trans (List.filter_congr fun x _ => ?_)⟩
      rw [decide_eq_decide]
      simp [spotsWithout, and_assoc]
  · obtain ⟨hrecord, hwindow, hwatch, hlatest⟩ := hslices i
    refine ⟨hrecord, hwindow, hwatch, hlatest, fun hlive howner hpersist => ?_, fun hne hfree => ?_⟩
    · have ho := hoffered (h.orphaned i hlive howner hpersist)
      dsimp only at ho
      rw [drop_drop] at ho
      exact ho
    · have ho := hoffered (h.ended i hne hfree)
      dsimp only at ho
      rw [drop_drop] at ho
      exact ho
  · exact ⟨hserved hresume e he hw, (h.served hresume e he hw).2⟩
  · refine ⟨halarms l, h.line l, harming l, fun hin hrel => hoffered (h.releasedAtEnd l hin hrel),
      fun hne hrel => ?_⟩
    obtain ⟨i, hi, hfirst, ho⟩ := h.released l hne hrel
    exact ⟨i, hi, hfirst, hoffered ho⟩
  · obtain ⟨h1, h2, h3⟩ := hsamples m hm
    obtain ⟨h4, h5, h6⟩ := htold.samples m
    exact ⟨(htports m hm).trans ((htold.port m).trans (hports m hm)), h1.trans h4, h2.trans h5, h3.trans h6⟩

end

end Sys2Proof.Machine
end

section
/-! PROOF. A session end, whole (R160 to R166). -/

namespace Sys2Proof.Machine

open Sys2Proof.Safety

/-- The port controller p after its session has ended (R165, R166). -/
def portEnded (p : PortCtl) : PortCtl :=
  { p with session := .detached, timer := none, holder := .empty, overrun := false, inExec := none, label := 0,
           timeout := 0 }

/-- The PORT_DETACHED of port n (R166). -/
def detachedEvent (n : Port) (cause : EndCause) : Announced :=
  ⟨everyPort, .portDetached, portByte n, cause.value⟩

/-- f with the queues of port n emptied and its controller closed. -/
def portShut (n : Port) (f : State) : State :=
  (f.setQueues n {}).setPort n { f.port n with
    holder := .empty, overrun := false, inExec := none, label := 0, timeout := 0 }

theorem sessionEnd_eq (n : Port) (cause : EndCause) (u : State) :
    sessionEnd n cause u = afterEvents [detachedEvent n cause] (portShut n (sharesEnded n (detachPort n u))) :=
  raise_eq _ _ _ _ _

section
variable {n : Port} {s f : State}

theorem portShut_port (m : Port) (hm : m ≠ n) : (portShut n f).port m = f.port m := by
  rw [portShut, State.setPort_port, if_neg hm]
  rfl

theorem portShut_queues (m : Port) (hm : m ≠ n) : (portShut n f).queues m = f.queues m :=
  (State.setQueues_queues f n m {}).trans (if_neg hm)

theorem portShut_empty : (portShut n f).queues n = {} := (State.setQueues_queues f n n {}).trans (if_pos rfl)

theorem portShut_own : (portShut n f).port n = { f.port n with
    holder := .empty, overrun := false, inExec := none, label := 0, timeout := 0 } := by
  rw [portShut, State.setPort_port, if_pos rfl]

/-- The port's own share of a session end. -/
theorem portShut_closed (cause : EndCause) (hdetached : (f.port n).session = .detached) (q : PortCtl) :
    PortClosed n f (withPort n q (afterEvents [detachedEvent n cause] (portShut n f))) := by
  have htold := told_afterEvents [detachedEvent n cause] (portShut n f)
  have hunreached : reaches (portShut n f) n (detachedEvent n cause) = false := by
    have hatt : attached (portShut n f) n = false := by
      rw [attached, portShut_own]
      simp only [hdetached]
      rfl
    rw [reaches, hatt, Bool.and_false, Bool.false_and]
  refine ⟨rfl, ?_, fun m hm => ?_, fun m hm => ?_, fun m hm => ?_⟩
  · change (afterEvents [detachedEvent n cause] (portShut n f)).queues n = {}
    rw [htold.queues n, queuesAfter]
    simp [eventsAfter, hunreached, portShut_empty]
  · exact (withPort_port ..).trans ((if_neg hm).trans (portShut_port (f := f) m hm))
  · refine ⟨([detachedEvent n cause].filter (reaches (portShut n f) m)).map (Announced.entry · f.seq.fn), ?_⟩
    change ((afterEvents [detachedEvent n cause] (portShut n f)).queues m).events = _
    rw [htold.events m, eventsAfter, portShut_queues m hm, List.foldl_map]
    rfl
  · have hqueues := htold.samples m
    rw [portShut_queues (f := f) m hm] at hqueues
    exact hqueues

end

section
variable {n : Port} {s : State} {cause : EndCause}

theorem detachPort_onlyPort (p : PortCtl) : OnlyPort n s (detachPort n (withPort n p s)) := by
  refine ⟨rfl, fun m hm => ?_⟩
  rw [detachPort, State.setPort_port, if_neg hm, withPort_port, if_neg hm]

theorem sharesEnded_port (hlaws : LineLaws s) (m : Port) : (sharesEnded n s).port m = s.port m := by
  obtain ⟨l, htold⟩ := (sharesEnded_ended n hlaws).told
  exact htold.port m

theorem detachPort_own (p : PortCtl) :
    (detachPort n (withPort n p s)).port n = { p with session := .detached, timer := none } := by
  rw [detachPort, State.setPort_port, if_pos rfl, withPort_port, if_pos rfl]

/-- A session end lets go, and announces itself last, whatever becomes of the port's own controller. -/
theorem sessionEnd_over (hlaws : LineLaws s) (p q : PortCtl) :
    LetGo n s (withPort n q (sessionEnd n cause (withPort n p s))) ∧
    DetachAnnounced n cause.value s (withPort n q (sessionEnd n cause (withPort n p s))) := by
  have honly := detachPort_onlyPort (n := n) (s := s) p
  have hulaws := onlyPort_lineLaws honly hlaws
  have hshares := sharesEnded_ended n hulaws
  have hdetached : ((sharesEnded n (detachPort n (withPort n p s))).port n).session = .detached := by
    rw [sharesEnded_port hulaws, detachPort_own]
  have hclosed := portShut_closed cause hdetached q
  rw [sessionEnd_eq]
  generalize detachPort n (withPort n p s) = u at *
  generalize sharesEnded n u = f at *
  refine ⟨letGo_of_shares honly hshares hclosed hlaws, fun m hm hatt hmask => ?_⟩
  have hport : (portShut n f).port m = s.port m := by
    obtain ⟨l, htold⟩ := hshares.told
    rw [portShut_port m hm, htold.port m, honly.ports m hm]
  have hreach : reaches (portShut n f) m (detachedEvent n cause) = true := by
    have heveryone : (detachedEvent n cause).audience.has m = true := by fin_cases m <;> rfl
    have hatt' : attached (portShut n f) m = true := by
      rw [attached, hport, show (s.port m).session = .attached from hatt]
      rfl
    rw [reaches, heveryone, hatt', hport]
    exact hmask
  have hfn : (portShut n f).seq.fn = s.seq.fn := by
    have hu : u.seq = s.seq := by rw [honly.same]
    exact hshares.fn.trans (congrArg Seq.fn hu)
  obtain ⟨k, hk⟩ := (Told.last (l := []) (told_afterEvents [detachedEvent n cause] (portShut n f))) m hreach
  rw [hfn] at hk
  exact ⟨k, hk⟩

theorem sessionEnd_port (hlaws : LineLaws s) (p : PortCtl) :
    (sessionEnd n cause (withPort n p s)).port n = portEnded p := by
  have hulaws := onlyPort_lineLaws (detachPort_onlyPort (n := n) (s := s) p) hlaws
  have hport : (sessionEnd n cause (withPort n p s)).port n =
      (portShut n (sharesEnded n (detachPort n (withPort n p s)))).port n := by
    rw [sessionEnd_eq]
    rfl
  rw [hport, portShut_own, sharesEnded_port hulaws, detachPort_own]
  rfl

theorem sessionEnd_queues (hlaws : LineLaws s) (p : PortCtl) :
    (sessionEnd n cause (withPort n p s)).queues n = {} := by
  have hulaws := onlyPort_lineLaws (detachPort_onlyPort (n := n) (s := s) p) hlaws
  have hdetached : ((sharesEnded n (detachPort n (withPort n p s))).port n).session = .detached := by
    rw [sharesEnded_port hulaws, detachPort_own]
  have hclosed := portShut_closed cause hdetached p
  rw [sessionEnd_eq]
  generalize sharesEnded n (detachPort n (withPort n p s)) = f at *
  exact hclosed.empty

end

end Sys2Proof.Machine

namespace Sys2Proof.Proofs

open Sys2Proof.Machine Sys2Proof.Safety

/-- Settles O13: the three ways in which a session ends take the same shares, and differ in the port's own
controller alone. -/
theorem sessionEndsWhole : Obligations.SessionEndsWhole := by
  intro n tag s htrip halarm hwindow hattached
  have hlaws : LineLaws s := ⟨halarm, hwindow, htrip⟩
  refine ⟨fun hfree => ?_, fun hup htimer => ?_, fun label timeout hfree => ?_⟩
  · have htaken := hostCommand_taken (tag := tag) (block := detachBlock n) hfree
    rw [portCheck_opened, portCheck_attached hattached rfl rfl] at htaken
    dsimp only [detachBlock] at htaken
    rw [opened_eq, respond_eq, sessionEnd_port hlaws] at htaken
    obtain ⟨hletGo, hannounced⟩ := sessionEnd_over (n := n) (cause := .request) hlaws
      (openedPort tag (.detach n tag) (s.port n))
      { portEnded (openedPort tag (.detach n tag) (s.port n)) with holder := .ready ⟨.ok, tag, []⟩, inExec := none }
    refine ⟨_, htaken, hletGo, hannounced, ?_⟩
    rw [withPort_port, if_pos rfl, ← openedPort_answered tag (.detach n tag)]
    rfl
  · have hruns : sessionExpiry n s = sessionEnd n .timeout s :=
      if_pos ⟨hattached, Option.isSome_iff_ne_none.mpr htimer⟩
    have hport := sessionEnd_port (n := n) (cause := .timeout) hlaws (s.port n)
    obtain ⟨hletGo, hannounced⟩ := sessionEnd_over (n := n) (cause := .timeout) hlaws (s.port n)
      ((sessionEnd n .timeout (withPort n (s.port n) s)).port n)
    have hkept (u : State) : withPort n (u.port n) u = u := State.setPort_self n u
    rw [hkept, hkept] at hletGo hannounced
    rw [hkept] at hport
    exact ⟨_, (unlessReset_up hup).trans (congrArg Host.Outcome.next hruns), hletGo, hannounced, hport⟩
  · have hopened : ((opened n tag (.attach n tag label timeout 1) s).port n).session = .attached := by
      rw [opened_eq, withPort_port, if_pos rfl, openedPort_session]
      exact hattached
    have htaken := hostCommand_taken (tag := tag) (block := attachBlock n label timeout 1) hfree
    rw [portCheck_opened, portCheck_attach] at htaken
    dsimp only at htaken
    rw [attachBlock_forced hopened] at htaken
    rw [opened_eq, openSession_eq, sessionEnd_port hlaws, judgeAttn_sessionOpened (sessionEnd_queues hlaws _),
      respond_eq, withPort_port, if_pos rfl, withPort_withPort, withPort_port, if_pos rfl, attachPayload_opened] at htaken
    obtain ⟨hletGo, hannounced⟩ := sessionEnd_over (n := n) (cause := .reattach) hlaws
      (openedPort tag (.attach n tag label timeout 1) (s.port n)) _
    refine ⟨_, htaken, hletGo, hannounced, ?_⟩
    rw [withPort_port, if_pos rfl, ← openedPort_answered tag (.attach n tag label timeout 1)]
    rfl

end Sys2Proof.Proofs
end
